-- ==== Sys2Proof/Word.lean ====
section
/-! DEFINITION. The two word widths of the hardware (00_scope.md R5): bytes and 16-bit words. -/

namespace Sys2Proof

/-- The content of an 8-bit register, a memory cell, an immediate or a port (R5, R10, R40, R41). -/
abbrev Byte := BitVec 8

/-- A 16-bit value: a register pair, SP, PC, a memory address or a 16-bit operand (R5, R11, R14, R15). -/
abbrev Word := BitVec 16

end Sys2Proof
end

