-- ==== Sys2Proof/Machine/Bytes.lean ====
section
/-! DEFINITION. The byte order of 16-bit quantities: which byte of a word is low and which is high (20_memory.md R42,
30_encoding.md R67), and bytes written out bit by bit. -/

namespace Sys2Proof

/-- `hi : lo`, the word with `hi` in bits 15 to 8 and `lo` in bits 7 to 0 (00_scope.md R7). -/
def joinBytes (hi lo : Byte) : Word := hi ++ lo

/-- Bits 7 to 0 of a word. -/
def lowByte (w : Word) : Byte := w.extractLsb' 0 8

/-- Bits 15 to 8 of a word. -/
def highByte (w : Word) : Byte := w.extractLsb' 8 8

/-- Eight bits written out from bit 7 to bit 0, as the layouts of RF (R21) and of RIM (R230) list them. -/
def packBits (b7 b6 b5 b4 b3 b2 b1 b0 : Bool) : Byte :=
  BitVec.ofBool b7 ++ BitVec.ofBool b6 ++ BitVec.ofBool b5 ++ BitVec.ofBool b4 ++
    BitVec.ofBool b3 ++ BitVec.ofBool b2 ++ BitVec.ofBool b1 ++ BitVec.ofBool b0

end Sys2Proof
end

