-- ==== Sys2Proof/Syntax.lean ====
section
/-! DEFINITION. The instructions as syntax: one constructor of `Instr` for each row of spec/opcode_table.json
(30_encoding.md R80), and the operand types its fields range over. -/

namespace Sys2Proof

/-- The seven 8-bit general registers (10_state.md R10). -/
inductive Reg where
  | b | c | d | e | h | l | a
deriving DecidableEq, Repr

/-- The 16-bit operands a pair code of the `rp` field can name (30_encoding.md R64): BC, DE, HL, SP. PSW is no value
of this type: PUSH PSW and POP PSW are constructors of their own. -/
inductive Pair where
  | bc | de | hl | sp
deriving DecidableEq, Repr

/-- The eight conditions of Jccc, Cccc and Rccc (30_encoding.md R65). -/
inductive Cond where
  | nz | z | nc | c | po | pe | p | m
deriving DecidableEq, Repr

/-- One constructor for each of the 105 rows of spec/opcode_table.json. An immediate, a port or an address is a bit
vector; a 16-bit operand is already assembled, high byte in bits 15 to 8 (30_encoding.md R67). -/
inductive Instr where
  -- Transfer instructions (40_transfer.md)
  /-- `MOV r1, r2`, `01DDDSSS` (R101). -/
  | movRR (dst : Reg) (src : Reg)
  /-- `MOV r, M`, `01DDD110` (R102). -/
  | movRM (dst : Reg)
  /-- `MOV M, r`, `01110SSS` (R103). -/
  | movMR (src : Reg)
  /-- `MVI r, byte`, `00DDD110` (R104). -/
  | mviR (dst : Reg) (v : Byte)
  /-- `MVI M, byte`, `00110110` (R105). -/
  | mviM (v : Byte)
  /-- `LXI rp, dobreB`, `00rp0001` (R106). -/
  | lxi (pair : Pair) (w : Word)
  /-- `LDA dir`, `00111010` (R107). -/
  | lda (dir : Word)
  /-- `STA dir`, `00110010` (R108). -/
  | sta (dir : Word)
  /-- `LHLD dir`, `00101010` (R109). -/
  | lhld (dir : Word)
  /-- `SHLD dir`, `00100010` (R110). -/
  | shld (dir : Word)
  /-- `LDAX rp`, `00rp1010` (R111). -/
  | ldax (pair : Pair)
  /-- `STAX rp`, `00rp0010` (R112). -/
  | stax (pair : Pair)
  /-- `XCHG`, `11101011` (R113). -/
  | xchg
  -- Arithmetic instructions (41_arithmetic.md)
  /-- `ADD r`, `10000SSS` (R121). -/
  | addR (r : Reg)
  /-- `ADD M`, `10000110` (R122). -/
  | addM
  /-- `ADI byte`, `11000110` (R123). -/
  | adi (v : Byte)
  /-- `ADC r`, `10001SSS` (R124). -/
  | adcR (r : Reg)
  /-- `ADC M`, `10001110` (R125). -/
  | adcM
  /-- `ACI byte`, `11001110` (R126). -/
  | aci (v : Byte)
  /-- `SUB r`, `10010SSS` (R127). -/
  | subR (r : Reg)
  /-- `SUB M`, `10010110` (R128). -/
  | subM
  /-- `SUI byte`, `11010110` (R129). -/
  | sui (v : Byte)
  /-- `SBB r`, `10011SSS` (R130). -/
  | sbbR (r : Reg)
  /-- `SBB M`, `10011110` (R131). -/
  | sbbM
  /-- `SBI byte`, `11011110` (R132). -/
  | sbi (v : Byte)
  /-- `INR r`, `00DDD100` (R133). -/
  | inrR (r : Reg)
  /-- `INR M`, `00110100` (R134). -/
  | inrM
  /-- `DCR r`, `00DDD101` (R135). -/
  | dcrR (r : Reg)
  /-- `DCR M`, `00110101` (R136). -/
  | dcrM
  /-- `INX rp`, `00rp0011` (R137). -/
  | inx (pair : Pair)
  /-- `DCX rp`, `00rp1011` (R138). -/
  | dcx (pair : Pair)
  /-- `DAD rp`, `00rp1001` (R139). -/
  | dad (pair : Pair)
  /-- `DAA`, `00100111` (R150). -/
  | daa
  /-- `CMP r`, `10111SSS` (R151). -/
  | cmpR (r : Reg)
  /-- `CMP M`, `10111110` (R152). -/
  | cmpM
  /-- `CPI byte`, `11111110` (R153). -/
  | cpi (v : Byte)
  -- Logical instructions (42_logical.md)
  /-- `ANA r`, `10100SSS` (R161). -/
  | anaR (r : Reg)
  /-- `ANA M`, `10100110` (R162). -/
  | anaM
  /-- `ANI byte`, `11100110` (R163). -/
  | ani (v : Byte)
  /-- `XRA r`, `10101SSS` (R164). -/
  | xraR (r : Reg)
  /-- `XRA M`, `10101110` (R165). -/
  | xraM
  /-- `XRI byte`, `11101110` (R166). -/
  | xri (v : Byte)
  /-- `ORA r`, `10110SSS` (R167). -/
  | oraR (r : Reg)
  /-- `ORA M`, `10110110` (R168). -/
  | oraM
  /-- `ORI byte`, `11110110` (R169). -/
  | ori (v : Byte)
  /-- `CMA`, `00101111` (R170). -/
  | cma
  -- Rotate and flag instructions (43_rotate_flags.md)
  /-- `RLC`, `00000111` (R181). -/
  | rlc
  /-- `RRC`, `00001111` (R182). -/
  | rrc
  /-- `RAL`, `00010111` (R183). -/
  | ral
  /-- `RAR`, `00011111` (R184). -/
  | rar
  /-- `CMC`, `00111111` (R185). -/
  | cmc
  /-- `STC`, `00110111` (R186). -/
  | stc
  -- Jump, call, return and restart instructions (44_branch.md)
  /-- `JMP dir`, `11000011` (R191). -/
  | jmp (dir : Word)
  /-- `JNZ dir`, `11000010`, if Z = 0 (R192). -/
  | jnz (dir : Word)
  /-- `JZ dir`, `11001010`, if Z = 1 (R192). -/
  | jz (dir : Word)
  /-- `JNC dir`, `11010010`, if CY = 0 (R192). -/
  | jnc (dir : Word)
  /-- `JC dir`, `11011010`, if CY = 1 (R192). -/
  | jc (dir : Word)
  /-- `JPO dir`, `11100010`, if P = 0 (R192). -/
  | jpo (dir : Word)
  /-- `JPE dir`, `11101010`, if P = 1 (R192). -/
  | jpe (dir : Word)
  /-- `JP dir`, `11110010`, if S = 0 (R192). -/
  | jp (dir : Word)
  /-- `JM dir`, `11111010`, if S = 1 (R192). -/
  | jm (dir : Word)
  /-- `CALL dir`, `11001101` (R193). -/
  | call (dir : Word)
  /-- `CNZ dir`, `11000100`, if Z = 0 (R195). -/
  | cnz (dir : Word)
  /-- `CZ dir`, `11001100`, if Z = 1 (R195). -/
  | cz (dir : Word)
  /-- `CNC dir`, `11010100`, if CY = 0 (R195). -/
  | cnc (dir : Word)
  /-- `CC dir`, `11011100`, if CY = 1 (R195). -/
  | cc (dir : Word)
  /-- `CPO dir`, `11100100`, if P = 0 (R195). -/
  | cpo (dir : Word)
  /-- `CPE dir`, `11101100`, if P = 1 (R195). -/
  | cpe (dir : Word)
  /-- `CP dir`, `11110100`, if S = 0 (R195). -/
  | cp (dir : Word)
  /-- `CM dir`, `11111100`, if S = 1 (R195). -/
  | cm (dir : Word)
  /-- `RET`, `11001001` (R196). -/
  | ret
  /-- `RNZ`, `11000000`, if Z = 0 (R197). -/
  | rnz
  /-- `RZ`, `11001000`, if Z = 1 (R197). -/
  | rz
  /-- `RNC`, `11010000`, if CY = 0 (R197). -/
  | rnc
  /-- `RC`, `11011000`, if CY = 1 (R197). -/
  | rc
  /-- `RPO`, `11100000`, if P = 0 (R197). -/
  | rpo
  /-- `RPE`, `11101000`, if P = 1 (R197). -/
  | rpe
  /-- `RP`, `11110000`, if S = 0 (R197). -/
  | rp
  /-- `RM`, `11111000`, if S = 1 (R197). -/
  | rm
  /-- `RST n`, `11NNN111` (R198). -/
  | rst (n : BitVec 3)
  /-- `PCHL`, `11101001` (R199). -/
  | pchl
  -- Stack instructions (45_stack.md)
  /-- `PUSH rp`, `11rp0101` (R211). -/
  | pushRp (pair : Pair)
  /-- `PUSH PSW`, `11110101` (R212). -/
  | pushPsw
  /-- `POP rp`, `11rp0001` (R213). -/
  | popRp (pair : Pair)
  /-- `POP PSW`, `11110001` (R214). -/
  | popPsw
  /-- `XTHL`, `11100011` (R215). -/
  | xthl
  /-- `SPHL`, `11111001` (R216). -/
  | sphl
  -- Input and output instructions (46_io.md)
  /-- `IN porta`, `11011011` (R220). -/
  | inPort (port : Byte)
  /-- `OUT porta`, `11010011` (R221). -/
  | outPort (port : Byte)
  -- Processor control instructions (47_control.md)
  /-- `EI`, `11111011` (R225). -/
  | ei
  /-- `DI`, `11110011` (R226). -/
  | di
  /-- `NOP`, `00000000` (R227). -/
  | nop
  /-- `HLT`, `01110110` (R228). -/
  | hlt
  /-- `RIM`, `00100000` (R230). -/
  | rim
  /-- `SIM`, `00110000` (R231). -/
  | sim
  -- Unassigned first-byte values (30_encoding.md R75)
  /-- first byte 08h, which no row of the card produces (R75). -/
  | unassigned08
  /-- first byte 10h, which no row of the card produces (R75). -/
  | unassigned10
  /-- first byte 18h, which no row of the card produces (R75). -/
  | unassigned18
  /-- first byte 28h, which no row of the card produces (R75). -/
  | unassigned28
  /-- first byte 38h, which no row of the card produces (R75). -/
  | unassigned38
  /-- first byte CBh, which no row of the card produces (R75). -/
  | unassignedCB
  /-- first byte D9h, which no row of the card produces (R75). -/
  | unassignedD9
  /-- first byte DDh, which no row of the card produces (R75). -/
  | unassignedDD
  /-- first byte EDh, which no row of the card produces (R75). -/
  | unassignedED
  /-- first byte FDh, which no row of the card produces (R75). -/
  | unassignedFD
deriving DecidableEq, Repr

end Sys2Proof
end

