-- ==== Sys2Proof/WellFormed.lean ====
section
/-! DEFINITION. Which instruction terms some encoding stands for: the restrictions on the `rp` operand that the operand
type does not make (30_encoding.md R64, R72). -/

namespace Sys2Proof

/-- The pairs LDAX and STAX can name: BC and DE only (R64, R111, R112). -/
def Pair.isIndex : Pair → Bool
  | .bc | .de => true
  | .hl | .sp => false

/-- The pairs PUSH rp and POP rp can name: BC, DE, HL; code 11 is PSW there (R64, R211, R213). -/
def Pair.isStack : Pair → Bool
  | .bc | .de | .hl => true
  | .sp => false

/-- Does the instruction have an encoding? -/
def Instr.wellFormed : Instr → Bool
  | .movRR _ _ => true
  | .movRM _ => true
  | .movMR _ => true
  | .mviR _ _ => true
  | .mviM _ => true
  | .lxi _ _ => true
  | .lda _ => true
  | .sta _ => true
  | .lhld _ => true
  | .shld _ => true
  | .ldax pair => pair.isIndex
  | .stax pair => pair.isIndex
  | .xchg => true
  | .addR _ => true
  | .addM => true
  | .adi _ => true
  | .adcR _ => true
  | .adcM => true
  | .aci _ => true
  | .subR _ => true
  | .subM => true
  | .sui _ => true
  | .sbbR _ => true
  | .sbbM => true
  | .sbi _ => true
  | .inrR _ => true
  | .inrM => true
  | .dcrR _ => true
  | .dcrM => true
  | .inx _ => true
  | .dcx _ => true
  | .dad _ => true
  | .daa => true
  | .cmpR _ => true
  | .cmpM => true
  | .cpi _ => true
  | .anaR _ => true
  | .anaM => true
  | .ani _ => true
  | .xraR _ => true
  | .xraM => true
  | .xri _ => true
  | .oraR _ => true
  | .oraM => true
  | .ori _ => true
  | .cma => true
  | .rlc => true
  | .rrc => true
  | .ral => true
  | .rar => true
  | .cmc => true
  | .stc => true
  | .jmp _ => true
  | .jnz _ => true
  | .jz _ => true
  | .jnc _ => true
  | .jc _ => true
  | .jpo _ => true
  | .jpe _ => true
  | .jp _ => true
  | .jm _ => true
  | .call _ => true
  | .cnz _ => true
  | .cz _ => true
  | .cnc _ => true
  | .cc _ => true
  | .cpo _ => true
  | .cpe _ => true
  | .cp _ => true
  | .cm _ => true
  | .ret => true
  | .rnz => true
  | .rz => true
  | .rnc => true
  | .rc => true
  | .rpo => true
  | .rpe => true
  | .rp => true
  | .rm => true
  | .rst _ => true
  | .pchl => true
  | .pushRp pair => pair.isStack
  | .pushPsw => true
  | .popRp pair => pair.isStack
  | .popPsw => true
  | .xthl => true
  | .sphl => true
  | .inPort _ => true
  | .outPort _ => true
  | .ei => true
  | .di => true
  | .nop => true
  | .hlt => true
  | .rim => true
  | .sim => true
  | .unassigned08 => true
  | .unassigned10 => true
  | .unassigned18 => true
  | .unassigned28 => true
  | .unassigned38 => true
  | .unassignedCB => true
  | .unassignedD9 => true
  | .unassignedDD => true
  | .unassignedED => true
  | .unassignedFD => true

end Sys2Proof
end

