-- ==== Sys2Proof/Decode.lean ====
section
/-! DEFINITION. The decoder, total on any bytes and rejecting by name, as the opcode table of 30_encoding.md R80, and
after it the encoder, from the same encodings. -/

namespace Sys2Proof

/-- The register a 3-bit code names (R63). Code 110 is M, the memory byte at (HL), and names no register. -/
def Reg.ofCode (code : BitVec 3) : Option Reg :=
  if code = 0b000#3 then some .b
  else if code = 0b001#3 then some .c
  else if code = 0b010#3 then some .d
  else if code = 0b011#3 then some .e
  else if code = 0b100#3 then some .h
  else if code = 0b101#3 then some .l
  else if code = 0b111#3 then some .a
  else none

/-- The 3-bit code of a register (R63). -/
def Reg.code : Reg → BitVec 3
  | .b => 0b000#3
  | .c => 0b001#3
  | .d => 0b010#3
  | .e => 0b011#3
  | .h => 0b100#3
  | .l => 0b101#3
  | .a => 0b111#3

/-- The pair a 2-bit code names in LXI, INX, DCX and DAD (R64). -/
def Pair.ofCode (code : BitVec 2) : Pair :=
  if code = 0b00#2 then .bc
  else if code = 0b01#2 then .de
  else if code = 0b10#2 then .hl
  else .sp

/-- The 2-bit code of a pair (R64). -/
def Pair.code : Pair → BitVec 2
  | .bc => 0b00#2
  | .de => 0b01#2
  | .hl => 0b10#2
  | .sp => 0b11#2

/-- The register of the field DDD, bits 5 to 3 of the first byte (R60). -/
def dstReg (b : Byte) : Option Reg := Reg.ofCode (b.extractLsb' 3 3)

/-- The register of the field SSS, bits 2 to 0 of the first byte (R60). -/
def srcReg (b : Byte) : Option Reg := Reg.ofCode (b.extractLsb' 0 3)

/-- The pair of the field rp, bits 5 and 4 of the first byte (R60). -/
def pairField (b : Byte) : Pair := Pair.ofCode (b.extractLsb' 4 2)

/-- The rp field of LDAX and STAX: only BC and DE (R64, R72). -/
def indexPair (b : Byte) : Option Pair := if (pairField b).isIndex then some (pairField b) else none

/-- The rp field of PUSH rp and POP rp: not code 11, which is PSW there (R64, R72). -/
def stackPair (b : Byte) : Option Pair := if (pairField b).isStack then some (pairField b) else none

/-- One row of the opcode table (R80): a first byte `b` fits the row when `b AND mask = pattern`. `length` is in bytes,
none for an UNASSIGNED row (R75). `build` makes the instruction from the first byte and the two bytes after it, of which
a shorter instruction ignores the rest; it answers none for a field value that does not belong to the row (R72). -/
structure OpRow where
  mask : Byte
  pattern : Byte
  length : Option Nat
  build : Byte → Byte → Byte → Option Instr

/-- The rows with a fixed first byte below C0h (groups 00, 01 and 10 of R69). -/
def rowsLow : List OpRow := [
  ⟨0xFF#8, 0x36#8, some 2, fun _ lo _ => some (.mviM lo)⟩,
  ⟨0xFF#8, 0x3A#8, some 3, fun _ lo hi => some (.lda (joinBytes hi lo))⟩,
  ⟨0xFF#8, 0x32#8, some 3, fun _ lo hi => some (.sta (joinBytes hi lo))⟩,
  ⟨0xFF#8, 0x2A#8, some 3, fun _ lo hi => some (.lhld (joinBytes hi lo))⟩,
  ⟨0xFF#8, 0x22#8, some 3, fun _ lo hi => some (.shld (joinBytes hi lo))⟩,
  ⟨0xFF#8, 0x86#8, some 1, fun _ _ _ => some .addM⟩,
  ⟨0xFF#8, 0x8E#8, some 1, fun _ _ _ => some .adcM⟩,
  ⟨0xFF#8, 0x96#8, some 1, fun _ _ _ => some .subM⟩,
  ⟨0xFF#8, 0x9E#8, some 1, fun _ _ _ => some .sbbM⟩,
  ⟨0xFF#8, 0x34#8, some 1, fun _ _ _ => some .inrM⟩,
  ⟨0xFF#8, 0x35#8, some 1, fun _ _ _ => some .dcrM⟩,
  ⟨0xFF#8, 0x27#8, some 1, fun _ _ _ => some .daa⟩,
  ⟨0xFF#8, 0xBE#8, some 1, fun _ _ _ => some .cmpM⟩,
  ⟨0xFF#8, 0xA6#8, some 1, fun _ _ _ => some .anaM⟩,
  ⟨0xFF#8, 0xAE#8, some 1, fun _ _ _ => some .xraM⟩,
  ⟨0xFF#8, 0xB6#8, some 1, fun _ _ _ => some .oraM⟩,
  ⟨0xFF#8, 0x2F#8, some 1, fun _ _ _ => some .cma⟩,
  ⟨0xFF#8, 0x07#8, some 1, fun _ _ _ => some .rlc⟩,
  ⟨0xFF#8, 0x0F#8, some 1, fun _ _ _ => some .rrc⟩,
  ⟨0xFF#8, 0x17#8, some 1, fun _ _ _ => some .ral⟩,
  ⟨0xFF#8, 0x1F#8, some 1, fun _ _ _ => some .rar⟩,
  ⟨0xFF#8, 0x3F#8, some 1, fun _ _ _ => some .cmc⟩,
  ⟨0xFF#8, 0x37#8, some 1, fun _ _ _ => some .stc⟩,
  ⟨0xFF#8, 0x76#8, some 1, fun _ _ _ => some .hlt⟩,
  ⟨0xFF#8, 0x00#8, some 1, fun _ _ _ => some .nop⟩,
  ⟨0xFF#8, 0x20#8, some 1, fun _ _ _ => some .rim⟩,
  ⟨0xFF#8, 0x30#8, some 1, fun _ _ _ => some .sim⟩,
  ⟨0xFF#8, 0x08#8, none, fun _ _ _ => some .unassigned08⟩,
  ⟨0xFF#8, 0x10#8, none, fun _ _ _ => some .unassigned10⟩,
  ⟨0xFF#8, 0x18#8, none, fun _ _ _ => some .unassigned18⟩,
  ⟨0xFF#8, 0x28#8, none, fun _ _ _ => some .unassigned28⟩,
  ⟨0xFF#8, 0x38#8, none, fun _ _ _ => some .unassigned38⟩]

/-- The rows with a fixed first byte of the branch group (R191 to R197, R199). -/
def rowsBranch : List OpRow := [
  ⟨0xFF#8, 0xC3#8, some 3, fun _ lo hi => some (.jmp (joinBytes hi lo))⟩,
  ⟨0xFF#8, 0xC2#8, some 3, fun _ lo hi => some (.jnz (joinBytes hi lo))⟩,
  ⟨0xFF#8, 0xCA#8, some 3, fun _ lo hi => some (.jz (joinBytes hi lo))⟩,
  ⟨0xFF#8, 0xD2#8, some 3, fun _ lo hi => some (.jnc (joinBytes hi lo))⟩,
  ⟨0xFF#8, 0xDA#8, some 3, fun _ lo hi => some (.jc (joinBytes hi lo))⟩,
  ⟨0xFF#8, 0xE2#8, some 3, fun _ lo hi => some (.jpo (joinBytes hi lo))⟩,
  ⟨0xFF#8, 0xEA#8, some 3, fun _ lo hi => some (.jpe (joinBytes hi lo))⟩,
  ⟨0xFF#8, 0xF2#8, some 3, fun _ lo hi => some (.jp (joinBytes hi lo))⟩,
  ⟨0xFF#8, 0xFA#8, some 3, fun _ lo hi => some (.jm (joinBytes hi lo))⟩,
  ⟨0xFF#8, 0xCD#8, some 3, fun _ lo hi => some (.call (joinBytes hi lo))⟩,
  ⟨0xFF#8, 0xC4#8, some 3, fun _ lo hi => some (.cnz (joinBytes hi lo))⟩,
  ⟨0xFF#8, 0xCC#8, some 3, fun _ lo hi => some (.cz (joinBytes hi lo))⟩,
  ⟨0xFF#8, 0xD4#8, some 3, fun _ lo hi => some (.cnc (joinBytes hi lo))⟩,
  ⟨0xFF#8, 0xDC#8, some 3, fun _ lo hi => some (.cc (joinBytes hi lo))⟩,
  ⟨0xFF#8, 0xE4#8, some 3, fun _ lo hi => some (.cpo (joinBytes hi lo))⟩,
  ⟨0xFF#8, 0xEC#8, some 3, fun _ lo hi => some (.cpe (joinBytes hi lo))⟩,
  ⟨0xFF#8, 0xF4#8, some 3, fun _ lo hi => some (.cp (joinBytes hi lo))⟩,
  ⟨0xFF#8, 0xFC#8, some 3, fun _ lo hi => some (.cm (joinBytes hi lo))⟩,
  ⟨0xFF#8, 0xC9#8, some 1, fun _ _ _ => some .ret⟩,
  ⟨0xFF#8, 0xC0#8, some 1, fun _ _ _ => some .rnz⟩,
  ⟨0xFF#8, 0xC8#8, some 1, fun _ _ _ => some .rz⟩,
  ⟨0xFF#8, 0xD0#8, some 1, fun _ _ _ => some .rnc⟩,
  ⟨0xFF#8, 0xD8#8, some 1, fun _ _ _ => some .rc⟩,
  ⟨0xFF#8, 0xE0#8, some 1, fun _ _ _ => some .rpo⟩,
  ⟨0xFF#8, 0xE8#8, some 1, fun _ _ _ => some .rpe⟩,
  ⟨0xFF#8, 0xF0#8, some 1, fun _ _ _ => some .rp⟩,
  ⟨0xFF#8, 0xF8#8, some 1, fun _ _ _ => some .rm⟩,
  ⟨0xFF#8, 0xE9#8, some 1, fun _ _ _ => some .pchl⟩]

/-- The other rows with a fixed first byte from C0h on (R69, R75). -/
def rowsHigh : List OpRow := [
  ⟨0xFF#8, 0xEB#8, some 1, fun _ _ _ => some .xchg⟩,
  ⟨0xFF#8, 0xC6#8, some 2, fun _ lo _ => some (.adi lo)⟩,
  ⟨0xFF#8, 0xCE#8, some 2, fun _ lo _ => some (.aci lo)⟩,
  ⟨0xFF#8, 0xD6#8, some 2, fun _ lo _ => some (.sui lo)⟩,
  ⟨0xFF#8, 0xDE#8, some 2, fun _ lo _ => some (.sbi lo)⟩,
  ⟨0xFF#8, 0xFE#8, some 2, fun _ lo _ => some (.cpi lo)⟩,
  ⟨0xFF#8, 0xE6#8, some 2, fun _ lo _ => some (.ani lo)⟩,
  ⟨0xFF#8, 0xEE#8, some 2, fun _ lo _ => some (.xri lo)⟩,
  ⟨0xFF#8, 0xF6#8, some 2, fun _ lo _ => some (.ori lo)⟩,
  ⟨0xFF#8, 0xF5#8, some 1, fun _ _ _ => some .pushPsw⟩,
  ⟨0xFF#8, 0xF1#8, some 1, fun _ _ _ => some .popPsw⟩,
  ⟨0xFF#8, 0xE3#8, some 1, fun _ _ _ => some .xthl⟩,
  ⟨0xFF#8, 0xF9#8, some 1, fun _ _ _ => some .sphl⟩,
  ⟨0xFF#8, 0xDB#8, some 2, fun _ lo _ => some (.inPort lo)⟩,
  ⟨0xFF#8, 0xD3#8, some 2, fun _ lo _ => some (.outPort lo)⟩,
  ⟨0xFF#8, 0xFB#8, some 1, fun _ _ _ => some .ei⟩,
  ⟨0xFF#8, 0xF3#8, some 1, fun _ _ _ => some .di⟩,
  ⟨0xFF#8, 0xCB#8, none, fun _ _ _ => some .unassignedCB⟩,
  ⟨0xFF#8, 0xD9#8, none, fun _ _ _ => some .unassignedD9⟩,
  ⟨0xFF#8, 0xDD#8, none, fun _ _ _ => some .unassignedDD⟩,
  ⟨0xFF#8, 0xED#8, none, fun _ _ _ => some .unassignedED⟩,
  ⟨0xFF#8, 0xFD#8, none, fun _ _ _ => some .unassignedFD⟩]

/-- The rows with a field in the first byte, most bits fixed first; they stand after the fixed rows (R72, R80). -/
def rowsFields : List OpRow := [
  ⟨0xCF#8, 0x01#8, some 3, fun b lo hi => some (.lxi (pairField b) (joinBytes hi lo))⟩,
  ⟨0xCF#8, 0x0A#8, some 1, fun b _ _ => (indexPair b).map .ldax⟩,
  ⟨0xCF#8, 0x02#8, some 1, fun b _ _ => (indexPair b).map .stax⟩,
  ⟨0xCF#8, 0x03#8, some 1, fun b _ _ => some (.inx (pairField b))⟩,
  ⟨0xCF#8, 0x0B#8, some 1, fun b _ _ => some (.dcx (pairField b))⟩,
  ⟨0xCF#8, 0x09#8, some 1, fun b _ _ => some (.dad (pairField b))⟩,
  ⟨0xCF#8, 0xC5#8, some 1, fun b _ _ => (stackPair b).map .pushRp⟩,
  ⟨0xCF#8, 0xC1#8, some 1, fun b _ _ => (stackPair b).map .popRp⟩,
  ⟨0xC7#8, 0x46#8, some 1, fun b _ _ => (dstReg b).map .movRM⟩,
  ⟨0xF8#8, 0x70#8, some 1, fun b _ _ => (srcReg b).map .movMR⟩,
  ⟨0xC7#8, 0x06#8, some 2, fun b lo _ => (dstReg b).map fun dst => .mviR dst lo⟩,
  ⟨0xF8#8, 0x80#8, some 1, fun b _ _ => (srcReg b).map .addR⟩,
  ⟨0xF8#8, 0x88#8, some 1, fun b _ _ => (srcReg b).map .adcR⟩,
  ⟨0xF8#8, 0x90#8, some 1, fun b _ _ => (srcReg b).map .subR⟩,
  ⟨0xF8#8, 0x98#8, some 1, fun b _ _ => (srcReg b).map .sbbR⟩,
  ⟨0xC7#8, 0x04#8, some 1, fun b _ _ => (dstReg b).map .inrR⟩,
  ⟨0xC7#8, 0x05#8, some 1, fun b _ _ => (dstReg b).map .dcrR⟩,
  ⟨0xF8#8, 0xB8#8, some 1, fun b _ _ => (srcReg b).map .cmpR⟩,
  ⟨0xF8#8, 0xA0#8, some 1, fun b _ _ => (srcReg b).map .anaR⟩,
  ⟨0xF8#8, 0xA8#8, some 1, fun b _ _ => (srcReg b).map .xraR⟩,
  ⟨0xF8#8, 0xB0#8, some 1, fun b _ _ => (srcReg b).map .oraR⟩,
  ⟨0xC7#8, 0xC7#8, some 1, fun b _ _ => some (.rst (b.extractLsb' 3 3))⟩,
  ⟨0xC0#8, 0x40#8, some 1, fun b _ _ => (dstReg b).bind fun dst => (srcReg b).map fun src => .movRR dst src⟩]

/-- The opcode table, most specific rows first (R80). -/
def opcodeTable : List OpRow := rowsLow ++ rowsBranch ++ rowsHigh ++ rowsFields

/-- The row of a first byte: the first whose mask and pattern fit (R80). -/
def rowOf (b : Byte) : Option OpRow := opcodeTable.find? fun row => b &&& row.mask == row.pattern

/-- The length in bytes that the first byte gives (R68); none for an unassigned value (R75). -/
def opcodeLength (b : Byte) : Option Nat := (rowOf b).bind fun row => row.length

/-- How many operand bytes follow the first byte in the instruction stream: its length less one, and none for an
unassigned value, which has no length (R68, R75). -/
def operandCount (b : Byte) : Nat := (opcodeLength b).getD 1 - 1

/-- The instruction of a first byte and the two bytes after it; the bytes beyond its length are ignored. -/
def decodeBytes (b lo hi : Byte) : Option Instr := (rowOf b).bind fun row => row.build b lo hi

/-- Why a list of bytes does not begin with an instruction. -/
inductive DecodeError where
  /-- The list is empty. -/
  | noBytes
  /-- The first byte needs operand bytes that the list lacks. -/
  | operandMissing (b : Byte)
  /-- No row of the opcode table builds an instruction from the first byte (no byte value does this: R70, R75). -/
  | noRow (b : Byte)
deriving DecidableEq, Repr

/-- Decode the instruction at the head of a list of bytes and answer it with the bytes after it. -/
def decode : List Byte → Except DecodeError (Instr × List Byte)
  | [] => .error .noBytes
  | b :: rest =>
    match operandCount b, rest with
    | 0, rest =>
      match decodeBytes b 0 0 with
      | some i => .ok (i, rest)
      | none => .error (.noRow b)
    | 1, lo :: rest =>
      match decodeBytes b lo 0 with
      | some i => .ok (i, rest)
      | none => .error (.noRow b)
    | 2, lo :: hi :: rest =>
      match decodeBytes b lo hi with
      | some i => .ok (i, rest)
      | none => .error (.noRow b)
    | _, _ => .error (.operandMissing b)

/-- Byte `k` of an instruction given as one number, the first byte in bits 7 to 0. -/
def tableByte (w k : Nat) : Byte := BitVec.ofNat 8 (w / 256 ^ k)

/-- The instruction the decoder reads from an instruction whose bits are `w`, numbered as spec/opcode_table.json numbers
them; every bit from `nbits` on is 0. -/
def decodeTableWord (nbits w : Nat) : Option Instr :=
  let w := w % 2 ^ nbits
  match decode [tableByte w 0, tableByte w 1, tableByte w 2] with
  | .ok (i, _) => some i
  | .error _ => none

/-- A register code placed in the field DDD (R60). -/
def dstBits (r : Reg) : Byte := r.code.zeroExtend 8 <<< 3

/-- A register code placed in the field SSS (R60). -/
def srcBits (r : Reg) : Byte := r.code.zeroExtend 8

/-- A pair code placed in the field rp (R60). -/
def pairBits (pair : Pair) : Byte := pair.code.zeroExtend 8 <<< 4

/-- The bytes of an instruction, the first at the lowest address; a 16-bit operand has its low byte first (R48, R61). -/
def encode : Instr → List Byte
  | .movRR dst src => [0x40#8 ||| dstBits dst ||| srcBits src]
  | .movRM dst => [0x46#8 ||| dstBits dst]
  | .movMR src => [0x70#8 ||| srcBits src]
  | .mviR dst v => [0x06#8 ||| dstBits dst, v]
  | .mviM v => [0x36#8, v]
  | .lxi pair w => [0x01#8 ||| pairBits pair, lowByte w, highByte w]
  | .lda dir => [0x3A#8, lowByte dir, highByte dir]
  | .sta dir => [0x32#8, lowByte dir, highByte dir]
  | .lhld dir => [0x2A#8, lowByte dir, highByte dir]
  | .shld dir => [0x22#8, lowByte dir, highByte dir]
  | .ldax pair => [0x0A#8 ||| pairBits pair]
  | .stax pair => [0x02#8 ||| pairBits pair]
  | .xchg => [0xEB#8]
  | .addR r => [0x80#8 ||| srcBits r]
  | .addM => [0x86#8]
  | .adi v => [0xC6#8, v]
  | .adcR r => [0x88#8 ||| srcBits r]
  | .adcM => [0x8E#8]
  | .aci v => [0xCE#8, v]
  | .subR r => [0x90#8 ||| srcBits r]
  | .subM => [0x96#8]
  | .sui v => [0xD6#8, v]
  | .sbbR r => [0x98#8 ||| srcBits r]
  | .sbbM => [0x9E#8]
  | .sbi v => [0xDE#8, v]
  | .inrR r => [0x04#8 ||| dstBits r]
  | .inrM => [0x34#8]
  | .dcrR r => [0x05#8 ||| dstBits r]
  | .dcrM => [0x35#8]
  | .inx pair => [0x03#8 ||| pairBits pair]
  | .dcx pair => [0x0B#8 ||| pairBits pair]
  | .dad pair => [0x09#8 ||| pairBits pair]
  | .daa => [0x27#8]
  | .cmpR r => [0xB8#8 ||| srcBits r]
  | .cmpM => [0xBE#8]
  | .cpi v => [0xFE#8, v]
  | .anaR r => [0xA0#8 ||| srcBits r]
  | .anaM => [0xA6#8]
  | .ani v => [0xE6#8, v]
  | .xraR r => [0xA8#8 ||| srcBits r]
  | .xraM => [0xAE#8]
  | .xri v => [0xEE#8, v]
  | .oraR r => [0xB0#8 ||| srcBits r]
  | .oraM => [0xB6#8]
  | .ori v => [0xF6#8, v]
  | .cma => [0x2F#8]
  | .rlc => [0x07#8]
  | .rrc => [0x0F#8]
  | .ral => [0x17#8]
  | .rar => [0x1F#8]
  | .cmc => [0x3F#8]
  | .stc => [0x37#8]
  | .jmp dir => [0xC3#8, lowByte dir, highByte dir]
  | .jnz dir => [0xC2#8, lowByte dir, highByte dir]
  | .jz dir => [0xCA#8, lowByte dir, highByte dir]
  | .jnc dir => [0xD2#8, lowByte dir, highByte dir]
  | .jc dir => [0xDA#8, lowByte dir, highByte dir]
  | .jpo dir => [0xE2#8, lowByte dir, highByte dir]
  | .jpe dir => [0xEA#8, lowByte dir, highByte dir]
  | .jp dir => [0xF2#8, lowByte dir, highByte dir]
  | .jm dir => [0xFA#8, lowByte dir, highByte dir]
  | .call dir => [0xCD#8, lowByte dir, highByte dir]
  | .cnz dir => [0xC4#8, lowByte dir, highByte dir]
  | .cz dir => [0xCC#8, lowByte dir, highByte dir]
  | .cnc dir => [0xD4#8, lowByte dir, highByte dir]
  | .cc dir => [0xDC#8, lowByte dir, highByte dir]
  | .cpo dir => [0xE4#8, lowByte dir, highByte dir]
  | .cpe dir => [0xEC#8, lowByte dir, highByte dir]
  | .cp dir => [0xF4#8, lowByte dir, highByte dir]
  | .cm dir => [0xFC#8, lowByte dir, highByte dir]
  | .ret => [0xC9#8]
  | .rnz => [0xC0#8]
  | .rz => [0xC8#8]
  | .rnc => [0xD0#8]
  | .rc => [0xD8#8]
  | .rpo => [0xE0#8]
  | .rpe => [0xE8#8]
  | .rp => [0xF0#8]
  | .rm => [0xF8#8]
  | .rst n => [0xC7#8 ||| (n.zeroExtend 8 <<< 3)]
  | .pchl => [0xE9#8]
  | .pushRp pair => [0xC5#8 ||| pairBits pair]
  | .pushPsw => [0xF5#8]
  | .popRp pair => [0xC1#8 ||| pairBits pair]
  | .popPsw => [0xF1#8]
  | .xthl => [0xE3#8]
  | .sphl => [0xF9#8]
  | .inPort port => [0xDB#8, port]
  | .outPort port => [0xD3#8, port]
  | .ei => [0xFB#8]
  | .di => [0xF3#8]
  | .nop => [0x00#8]
  | .hlt => [0x76#8]
  | .rim => [0x20#8]
  | .sim => [0x30#8]
  | .unassigned08 => [0x08#8]
  | .unassigned10 => [0x10#8]
  | .unassigned18 => [0x18#8]
  | .unassigned28 => [0x28#8]
  | .unassigned38 => [0x38#8]
  | .unassignedCB => [0xCB#8]
  | .unassignedD9 => [0xD9#8]
  | .unassignedDD => [0xDD#8]
  | .unassignedED => [0xED#8]
  | .unassignedFD => [0xFD#8]

/-- The length in bytes of an instruction (R62); an unassigned value is one byte of the stream, though it has no length
of its own (R75, log 14). -/
def Instr.length : Instr → Nat
  | .movRR _ _ => 1
  | .movRM _ => 1
  | .movMR _ => 1
  | .mviR _ _ => 2
  | .mviM _ => 2
  | .lxi _ _ => 3
  | .lda _ => 3
  | .sta _ => 3
  | .lhld _ => 3
  | .shld _ => 3
  | .ldax _ => 1
  | .stax _ => 1
  | .xchg => 1
  | .addR _ => 1
  | .addM => 1
  | .adi _ => 2
  | .adcR _ => 1
  | .adcM => 1
  | .aci _ => 2
  | .subR _ => 1
  | .subM => 1
  | .sui _ => 2
  | .sbbR _ => 1
  | .sbbM => 1
  | .sbi _ => 2
  | .inrR _ => 1
  | .inrM => 1
  | .dcrR _ => 1
  | .dcrM => 1
  | .inx _ => 1
  | .dcx _ => 1
  | .dad _ => 1
  | .daa => 1
  | .cmpR _ => 1
  | .cmpM => 1
  | .cpi _ => 2
  | .anaR _ => 1
  | .anaM => 1
  | .ani _ => 2
  | .xraR _ => 1
  | .xraM => 1
  | .xri _ => 2
  | .oraR _ => 1
  | .oraM => 1
  | .ori _ => 2
  | .cma => 1
  | .rlc => 1
  | .rrc => 1
  | .ral => 1
  | .rar => 1
  | .cmc => 1
  | .stc => 1
  | .jmp _ => 3
  | .jnz _ => 3
  | .jz _ => 3
  | .jnc _ => 3
  | .jc _ => 3
  | .jpo _ => 3
  | .jpe _ => 3
  | .jp _ => 3
  | .jm _ => 3
  | .call _ => 3
  | .cnz _ => 3
  | .cz _ => 3
  | .cnc _ => 3
  | .cc _ => 3
  | .cpo _ => 3
  | .cpe _ => 3
  | .cp _ => 3
  | .cm _ => 3
  | .ret => 1
  | .rnz => 1
  | .rz => 1
  | .rnc => 1
  | .rc => 1
  | .rpo => 1
  | .rpe => 1
  | .rp => 1
  | .rm => 1
  | .rst _ => 1
  | .pchl => 1
  | .pushRp _ => 1
  | .pushPsw => 1
  | .popRp _ => 1
  | .popPsw => 1
  | .xthl => 1
  | .sphl => 1
  | .inPort _ => 2
  | .outPort _ => 2
  | .ei => 1
  | .di => 1
  | .nop => 1
  | .hlt => 1
  | .rim => 1
  | .sim => 1
  | .unassigned08 => 1
  | .unassigned10 => 1
  | .unassigned18 => 1
  | .unassigned28 => 1
  | .unassigned38 => 1
  | .unassignedCB => 1
  | .unassignedD9 => 1
  | .unassignedDD => 1
  | .unassignedED => 1
  | .unassignedFD => 1

/-- Is this the instruction EI? The instruction after an EI ends the delay unless it is an EI itself (R225). -/
def Instr.isEi : Instr → Bool
  | .ei => true
  | .movRR _ _ => false
  | .movRM _ => false
  | .movMR _ => false
  | .mviR _ _ => false
  | .mviM _ => false
  | .lxi _ _ => false
  | .lda _ => false
  | .sta _ => false
  | .lhld _ => false
  | .shld _ => false
  | .ldax _ => false
  | .stax _ => false
  | .xchg => false
  | .addR _ => false
  | .addM => false
  | .adi _ => false
  | .adcR _ => false
  | .adcM => false
  | .aci _ => false
  | .subR _ => false
  | .subM => false
  | .sui _ => false
  | .sbbR _ => false
  | .sbbM => false
  | .sbi _ => false
  | .inrR _ => false
  | .inrM => false
  | .dcrR _ => false
  | .dcrM => false
  | .inx _ => false
  | .dcx _ => false
  | .dad _ => false
  | .daa => false
  | .cmpR _ => false
  | .cmpM => false
  | .cpi _ => false
  | .anaR _ => false
  | .anaM => false
  | .ani _ => false
  | .xraR _ => false
  | .xraM => false
  | .xri _ => false
  | .oraR _ => false
  | .oraM => false
  | .ori _ => false
  | .cma => false
  | .rlc => false
  | .rrc => false
  | .ral => false
  | .rar => false
  | .cmc => false
  | .stc => false
  | .jmp _ => false
  | .jnz _ => false
  | .jz _ => false
  | .jnc _ => false
  | .jc _ => false
  | .jpo _ => false
  | .jpe _ => false
  | .jp _ => false
  | .jm _ => false
  | .call _ => false
  | .cnz _ => false
  | .cz _ => false
  | .cnc _ => false
  | .cc _ => false
  | .cpo _ => false
  | .cpe _ => false
  | .cp _ => false
  | .cm _ => false
  | .ret => false
  | .rnz => false
  | .rz => false
  | .rnc => false
  | .rc => false
  | .rpo => false
  | .rpe => false
  | .rp => false
  | .rm => false
  | .rst _ => false
  | .pchl => false
  | .pushRp _ => false
  | .pushPsw => false
  | .popRp _ => false
  | .popPsw => false
  | .xthl => false
  | .sphl => false
  | .inPort _ => false
  | .outPort _ => false
  | .di => false
  | .nop => false
  | .hlt => false
  | .rim => false
  | .sim => false
  | .unassigned08 => false
  | .unassigned10 => false
  | .unassigned18 => false
  | .unassigned28 => false
  | .unassigned38 => false
  | .unassignedCB => false
  | .unassignedD9 => false
  | .unassignedDD => false
  | .unassignedED => false
  | .unassignedFD => false

end Sys2Proof
end

