-- ==== Sys2Proof/Config.lean ====
section
/-! DEFINITION. What an implementation fixes: the OPEN parameters of 00_scope.md R5 with the defaults of
92_eei_decisions.md, the decided constants, and the free values (opaque, so that nothing can evaluate them). -/

namespace Sys2Proof

/-- LOGIC_AC (R5, R160, D8): the value AC takes after a logical instruction. -/
inductive LogicAc where
  /-- The card's statement, the spec's default: AC is 1 after all nine. -/
  | source
  /-- AC is 1 after the AND forms, 0 after the XOR and OR forms. -/
  | intel
deriving DecidableEq, Repr

/-- DAA_FLAGS (R5, R150, D9): which flags DAA writes. -/
inductive DaaFlags where
  /-- The card's statement, the spec's default: none. -/
  | source
  /-- All five. -/
  | intel
deriving DecidableEq, Repr

/-- AC_SUB (R5, R8, D7): what AC means after a subtraction. -/
inductive AcSub where
  /-- The spec's default: the carry out of bit 3 of the complement addition. -/
  | carry
  /-- The low-nibble borrow. -/
  | borrow
deriving DecidableEq, Repr

/-- INTERRUPT_MODEL (R5, R253, D18). -/
inductive InterruptModel where
  /-- The spec's default: no request is ever accepted. -/
  | none
  /-- The five-source system of 60_exceptions.md R241 to R252. -/
  | i8085
deriving DecidableEq, Repr

/-- EI_DELAY (R5, R225, D20): how many instructions after an EI maskable requests wait. -/
inductive EiDelay where
  /-- The spec's default: one instruction. -/
  | one
  /-- None: EI takes effect at once. -/
  | zero
deriving DecidableEq, Repr

/-- The OPEN parameters a model takes as arguments (R5). They are constants of the implementation: no instruction
writes them. PSW_SPARE is a draw and UNASSIGNED_OPCODE and RESET_PC are decided, so they are no fields. -/
structure Params where
  logicAc : LogicAc
  daaFlags : DaaFlags
  acSub : AcSub
  interruptModel : InterruptModel
  eiDelay : EiDelay
deriving DecidableEq, Repr

/-- The defaults of 92_eei_decisions.md, "Defaults, in one place". -/
def Params.default : Params where
  logicAc := .source
  daaFlags := .source
  acSub := .carry
  interruptModel := .none
  eiDelay := .one

/-- RESET_PC (R5, D22): where execution starts after a reset. -/
def Config.resetPc : Word := 0x0000#16

/-- Free value: the byte the environment presents at a port when State scripts none (R220, U3). The first argument
numbers the draw, the second is the port. -/
opaque Config.portDraw : Nat → Byte → Byte

/-- Free value: what RIM loads into A under INTERRUPT_MODEL = none (R230, U5), by the number of the draw. -/
opaque Config.rimDraw : Nat → Byte

/-- Free value: PSW_SPARE, the bits 5, 3 and 1 of the byte PUSH PSW stores (R21, R212, U2), as bits 2, 1 and 0 of the
result, by the number of the draw. -/
opaque Config.spareDraw : Nat → BitVec 3

/-- Free value: a general register after a reset in the middle of a run (R281), by the number of the draw. -/
opaque Config.resetRegDraw : Nat → Reg → Byte

/-- Free value: SP after a reset in the middle of a run (R281). -/
opaque Config.resetSpDraw : Nat → Word

/-- Free value: the flag byte whose bits 7, 6, 4, 2 and 0 the flags S, Z, AC, P and CY take after a reset in the
middle of a run (R281). -/
opaque Config.resetFlagsDraw : Nat → Byte

end Sys2Proof
end

