-- ==== Sys2Proof/Machine/State.lean ====
section
/-! DEFINITION. The state of the machine as plain data (10_state.md), why a step can stop, and the state after reset. -/

namespace Sys2Proof.Machine

/-- The seven general registers (R10). -/
structure Regs where
  b : Byte
  c : Byte
  d : Byte
  e : Byte
  h : Byte
  l : Byte
  a : Byte
deriving DecidableEq, Repr

/-- The five flags (R20). The flag byte RF is a view of them (R21); its spare bits are not state. -/
structure Flags where
  s : Bool
  z : Bool
  ac : Bool
  p : Bool
  cy : Bool
deriving DecidableEq, Repr

/-- The control state, field by field as the table of R26 lists it. -/
structure Ctl where
  /-- IE: maskable interrupts enabled. -/
  ie : Bool
  /-- M5.5: RST 5.5 masked. -/
  m55 : Bool
  /-- M6.5: RST 6.5 masked. -/
  m65 : Bool
  /-- M7.5: RST 7.5 masked. -/
  m75 : Bool
  /-- I7.5: the RST 7.5 request latch. -/
  i75 : Bool
  /-- SOD: the serial output latch. -/
  sod : Bool
  /-- TRAP_LATCH: the TRAP request latch. -/
  trapLatch : Bool
  /-- TRAP_IE: IE as it was when the last TRAP was taken; 0 again after the first RIM. -/
  trapIe : Bool
  /-- TRAP_SEEN: a TRAP was taken and no RIM has executed since. -/
  trapSeen : Bool
  /-- EI_PENDING: the last instruction completed was an EI. -/
  eiPending : Bool
  /-- HALTED: the processor has executed HLT. -/
  halted : Bool
deriving DecidableEq, Repr

/-- The input lines at their present level, and the bytes a device would supply if INTR were acknowledged now. They
belong to the environment (R26, R41, R247); State holds them so that a step can read them (log 7). -/
structure Lines where
  sid : Bool
  rst55 : Bool
  rst65 : Bool
  intr : Bool
  trap : Bool
  ack0 : Byte
  ack1 : Byte
  ack2 : Byte
deriving DecidableEq, Repr

/-- What the environment does between two steps: the new line levels, whether RST 7.5 and TRAP rose since the last
sample (R241, R243), and whether the reset pin is asserted (R280). -/
structure EnvEvent where
  lines : Lines
  rise75 : Bool
  riseTrap : Bool
  reset : Bool
deriving DecidableEq, Repr

/-- An output event of the run: a port write (R221) or a change of the serial output line (R231). -/
inductive OutEvent where
  | port (number value : Byte)
  | sod (level : Bool)
deriving DecidableEq, Repr

/-- Memory: the bytes that something has written, each with its address (R40). Addresses strictly rising. -/
abbrev Memory := List Host.Cell

/-- The whole machine. -/
structure State where
  /-- The general registers (R10). -/
  regs : Regs
  /-- The flags (R20). -/
  flags : Flags
  /-- The stack pointer (R14). -/
  sp : Word
  /-- The program counter: between steps, the address of the next instruction (R15). -/
  pc : Word
  /-- The control state (R26). -/
  ctl : Ctl
  /-- The memory (R40). -/
  mem : Memory
  /-- The input lines now (R26; log 7). -/
  lines : Lines
  /-- What the environment will do before each coming step; the lines hold their level when it is empty (log 7). -/
  script : List EnvEvent
  /-- The bytes the environment will present to the coming IN instructions; free values when it is empty (log 4). -/
  portIn : List Byte
  /-- No instruction has ended since reset, so no sampling point has been reached: the next instruction is fetched without
  one (R245, R281). The model's own field (log 30). -/
  firstFetch : Bool
  /-- How many free values have been drawn (log 4, 5, 6, 12). -/
  draws : Nat
  /-- The output events so far, the newest first (log 13). -/
  events : List OutEvent
  /-- The OPEN parameters of the implementation (R5); no step changes them (log 3). -/
  params : Params
deriving DecidableEq, Repr

/-- Why the machine stops. Both stops are safe: the model declines to go on where the spec gives no value or no step. -/
inductive Fault where
  /-- A read or a fetch of a memory byte that nothing has written (R30, U4). Raised by every memory read. Safe. -/
  | unwrittenRead (addr : Word)
  /-- The step of a halted processor under INTERRUPT_MODEL = none: it never steps again, the normal end of a run
  (R228, U9). Raised by the step function only; HLT itself completes. Safe. -/
  | halted
deriving DecidableEq, Repr

/-- Why the model gives an instruction no meaning. -/
inductive Refusal where
  /-- The instruction has no meaning yet. Raised by a refused arm of exec. Safe. -/
  | notModelled (mnemonic : String)
  /-- The spec's refuse(unassigned_opcode): a first byte that no row of the card produces (R75, U1). Raised by the ten
  UNASSIGNED instructions. Safe. -/
  | unassignedOpcode (b : Byte)
deriving DecidableEq, Repr

/-- What a meaning and a step answer. -/
abbrev Result := Host.Outcome State Fault Refusal

/-- The control state after reset (R31, R281). -/
def Ctl.reset : Ctl where
  ie := false
  m55 := true
  m65 := true
  m75 := true
  i75 := false
  sod := false
  trapLatch := false
  trapIe := false
  trapSeen := false
  eiPending := false
  halted := false

/-- All input lines low and no device answering: the model's choice for the state after reset (log 7). -/
def Lines.low : Lines where
  sid := false
  rst55 := false
  rst65 := false
  intr := false
  trap := false
  ack0 := 0x00#8
  ack1 := 0x00#8
  ack2 := 0x00#8

/-- The machine right after reset: PC and the control state as R31 and R281 say, and execution starts by fetching the
byte at 0000h (R281), whatever is requested meanwhile. The spec gives the registers, the flags
and SP no value; 00h, 0 and 0000h are the model's choice (DESIGN CHOICE, log 1). -/
def State.reset : State where
  regs := ⟨0x00#8, 0x00#8, 0x00#8, 0x00#8, 0x00#8, 0x00#8, 0x00#8⟩
  flags := ⟨false, false, false, false, false⟩
  sp := 0x0000#16
  pc := Config.resetPc
  ctl := Ctl.reset
  mem := []
  lines := Lines.low
  script := []
  portIn := []
  firstFetch := true
  draws := 0
  events := []
  params := Params.default

end Sys2Proof.Machine
end

