-- ==== Sys2Proof/Machine/Flags.lean ====
section
/-! DEFINITION. Every flag computation of the spec: the helpers of 00_scope.md R8, the logical, rotate, 16-bit and decimal
forms, the flag byte RF, and the branch conditions. -/

namespace Sys2Proof.Machine

/-- parity_even (R7): does the byte have an even number of 1 bits? -/
def parityEven (v : Byte) : Bool :=
  !(v.getLsbD 0 ^^ v.getLsbD 1 ^^ v.getLsbD 2 ^^ v.getLsbD 3 ^^
    v.getLsbD 4 ^^ v.getLsbD 5 ^^ v.getLsbD 6 ^^ v.getLsbD 7)

/-- szp (R8): S, Z and P from a result; AC and CY kept. -/
def Flags.szp (f : Flags) (v : Byte) : Flags :=
  { f with z := v == 0x00#8, s := v.getLsbD 7, p := parityEven v }

/-- The triple (res, cy, ac) the helpers of R8 return. -/
structure AluOut where
  res : Byte
  cy : Bool
  ac : Bool
deriving DecidableEq, Repr

/-- add8 (R8): exact sum, then reduced. -/
def add8 (a b : Byte) (cin : Bool) : AluOut :=
  let sum := a.toNat + b.toNat + cin.toNat
  { res := BitVec.ofNat 8 sum
    cy := decide (256 ≤ sum)
    ac := decide (16 ≤ a.toNat % 16 + b.toNat % 16 + cin.toNat) }

/-- AC of a subtraction under each value of AC_SUB (R8, D7). -/
def subAc (mode : AcSub) (a b : Byte) (bin : Bool) : Bool :=
  match mode with
  | .carry => decide (16 ≤ a.toNat % 16 + (15 - b.toNat % 16) + (1 - bin.toNat))
  | .borrow => decide (a.toNat % 16 < b.toNat % 16 + bin.toNat)

/-- sub8 (R8): exact difference, then reduced; CY is the borrow. -/
def sub8 (mode : AcSub) (a b : Byte) (bin : Bool) : AluOut :=
  let diff : Int := (a.toNat : Int) - (b.toNat : Int) - (bin.toNat : Int)
  { res := BitVec.ofInt 8 diff
    cy := decide (a.toNat < b.toNat + bin.toNat)
    ac := subAc mode a b bin }

/-- All five flags from an 8-bit addition or subtraction (R120, "TODOS"). -/
def Flags.ofAlu (f : Flags) (o : AluOut) : Flags := { f.szp o.res with cy := o.cy, ac := o.ac }

/-- The flags of INR and DCR: Z, S, P and AC written, CY kept (R133 to R136). -/
def Flags.ofIncDec (f : Flags) (o : AluOut) : Flags := { f.szp o.res with ac := o.ac }

/-- The three logical operations (R161 to R169). -/
inductive LogicOp where
  | and | xor | or
deriving DecidableEq, Repr

/-- The bitwise operation. -/
def LogicOp.apply (op : LogicOp) (a b : Byte) : Byte :=
  match op with
  | .and => a &&& b
  | .xor => a ^^^ b
  | .or => a ||| b

/-- logic_ac(op) (R160, LOGIC_AC). -/
def logicAcBit (p : LogicAc) (op : LogicOp) : Bool :=
  match p, op with
  | .source, _ => true
  | .intel, .and => true
  | .intel, .xor => false
  | .intel, .or => false

/-- The flags of a logical instruction: S, Z, P from the result, CY 0, AC by LOGIC_AC (R160). -/
def Flags.ofLogic (f : Flags) (p : LogicAc) (op : LogicOp) (v : Byte) : Flags :=
  { f.szp v with cy := false, ac := logicAcBit p op }

/-- The 16-bit sum of DAD and its carry out of bit 15 (R139). -/
def add16 (a b : Word) : Word × Bool :=
  let sum := a.toNat + b.toNat
  (BitVec.ofNat 16 sum, decide (65536 ≤ sum))

/-- The decimal adjustment (R150): the adjusted byte, and CY and AC as DAA_FLAGS = intel writes them. -/
def daaAdjust (acc : Byte) (acIn cyIn : Bool) : AluOut :=
  let lo := acc.toNat % 16
  let loFix := decide (9 < lo) || acIn
  let t := acc.toNat + (if loFix then 6 else 0)
  let hiFix := decide (9 < t / 16) || cyIn
  { res := BitVec.ofNat 8 (t + (if hiFix then 0x60 else 0))
    cy := if hiFix then true else cyIn
    ac := loFix && decide (16 ≤ lo + 6) }

/-- The flags after DAA: none written under DAA_FLAGS = source, all five under intel (R150). -/
def Flags.ofDaa (f : Flags) (p : DaaFlags) (o : AluOut) : Flags :=
  match p with
  | .source => f
  | .intel => f.ofAlu o

/-- `v[6:0] : low`: one place to the left (R181, R183). -/
def shiftInLow (v : Byte) (low : Bool) : Byte := v.extractLsb' 0 7 ++ BitVec.ofBool low

/-- `high : v[7:1]`: one place to the right (R182, R184). -/
def shiftInHigh (v : Byte) (high : Bool) : Byte := BitVec.ofBool high ++ v.extractLsb' 1 7

/-- RF as PUSH PSW stores it: S Z k5 AC k3 P k1 CY from bit 7 to bit 0; `spare` is k5 k3 k1 (R21, R212). -/
def Flags.toByte (f : Flags) (spare : BitVec 3) : Byte :=
  packBits f.s f.z (spare.getLsbD 2) f.ac (spare.getLsbD 1) f.p (spare.getLsbD 0) f.cy

/-- The flags POP PSW loads from a byte; bits 5, 3 and 1 are discarded (R21, R214). -/
def Flags.ofByte (rf : Byte) : Flags where
  s := rf.getLsbD 7
  z := rf.getLsbD 6
  ac := rf.getLsbD 4
  p := rf.getLsbD 2
  cy := rf.getLsbD 0

/-- cond(ccc) (R65): the flag value each condition tests. -/
def Flags.holds (f : Flags) : Cond → Bool
  | .nz => !f.z
  | .z => f.z
  | .nc => !f.cy
  | .c => f.cy
  | .po => !f.p
  | .pe => f.p
  | .p => !f.s
  | .m => f.s

end Sys2Proof.Machine
end

