-- ==== Sys2Proof/Machine/Ops.lean ====
section
/-! DEFINITION. The named operations over memory, SP, PC and the stack, and the one operation that takes an interrupt. -/

namespace Sys2Proof.Machine

/-! ## Memory -/

/-- What a byte that nothing has written reads as: no value (R30, U4, log 2). -/
def unlistedByte : Option Byte := none

/-- The byte listed at an address, if any. -/
def Memory.lookup : Memory → Nat → Option Byte
  | [], _ => none
  | (k, v) :: m, a => if k = a then some v else Memory.lookup m a

/-- List a byte at an address, in its place, replacing the one listed there. -/
def Memory.insert : Memory → Nat → Byte → Memory
  | [], a, v => [(a, v)]
  | (k, w) :: m, a, v =>
    if a < k then (a, v) :: (k, w) :: m
    else if a = k then (a, v) :: m
    else (k, w) :: Memory.insert m a v

/-- List nothing at an address. -/
def Memory.erase : Memory → Nat → Memory
  | [], _ => []
  | (k, w) :: m, a => if a = k then m else (k, w) :: Memory.erase m a

/-- MemRead(a, 1) (R7, R49): the last byte written at `a`, or what an unlisted address reads as. -/
def Memory.read (m : Memory) (a : Word) : Option Byte :=
  match Memory.lookup m a.toNat with
  | some v => some v
  | none => unlistedByte

/-- MemWrite(a, 1, v) (R7, R49). Writing what an unlisted address reads as removes the entry. -/
def Memory.write (m : Memory) (a : Word) (v : Byte) : Memory :=
  if some v = unlistedByte then Memory.erase m a.toNat else Memory.insert m a.toNat v

/-- The canonical form: addresses strictly rising and inside the space of 2^16 bytes (R40), no entry equal to what an
unlisted address reads as. -/
abbrev Memory.wf (m : Memory) : Prop :=
  m.Pairwise (fun x y => x.1 < y.1) ∧ ∀ x ∈ m, x.1 < 65536 ∧ some x.2 ≠ unlistedByte

/-- A data or fetch read of one byte: go on with the byte, or fault where nothing has written it (R30). -/
def loadByte (s : State) (a : Word) (k : Byte → Result) : Result :=
  match s.mem.read a with
  | some v => k v
  | none => .fault (.unwrittenRead a)

/-- A data write of one byte. Every address is writable (R40, R53). -/
def State.store (s : State) (a : Word) (v : Byte) : State := { s with mem := s.mem.write a v }

/-! ## Flags, SP, PC, control state, output -/

/-- Write all five flags. -/
def State.setFlags (s : State) (f : Flags) : State := { s with flags := f }

/-- Write CY and no other flag. -/
def State.setCy (s : State) (c : Bool) : State := { s with flags := { s.flags with cy := c } }

/-- Write SP. -/
def State.setSp (s : State) (w : Word) : State := { s with sp := w }

/-- `pc <- target` (R7): any 16-bit value is a legal target (R15). -/
def State.jump (s : State) (target : Word) : State := { s with pc := target }

/-- `(pc + len) mod 2^16` (R7, R15): the address of the next instruction in sequence. -/
def State.nextPc (s : State) (len : Nat) : Word := s.pc + BitVec.ofNat 16 len

/-- `pc <- (pc + len) mod 2^16`, the end of every rule that does not assign pc (R7). -/
def State.advance (s : State) (len : Nat) : State := s.jump (s.nextPc len)

/-- Write the control state. -/
def State.setCtl (s : State) (c : Ctl) : State := { s with ctl := c }

/-- Record an output event, the newest first (R221, R231, log 13). -/
def State.emit (s : State) (e : OutEvent) : State := { s with events := e :: s.events }

/-- Count one free value drawn. -/
def State.drew (s : State) : State := { s with draws := s.draws + 1 }

/-! ## The stack -/

/-- push16 (R194): high byte at SP - 1, then low byte at SP - 2, then SP <- SP - 2, all modulo 2^16. -/
def State.push16 (s : State) (v : Word) : State :=
  ((s.store (s.sp - 1) (highByte v)).store (s.sp - 2) (lowByte v)).setSp (s.sp - 2)

/-- pop16 (R194): low byte from SP, then high byte from SP + 1, then SP <- SP + 2. Popping into PC is RET, which is also
the return from an interrupt: there is no other, and it restores nothing else (R248). -/
def pop16 (s : State) (k : Word → State → Result) : Result :=
  loadByte s s.sp fun lo => loadByte s (s.sp + 1) fun hi => k (joinBytes hi lo) (s.setSp (s.sp + 2))

/-- A call: push the return address and jump (R193, R198). -/
def State.call (s : State) (ret target : Word) : State := (s.push16 ret).jump target

/-- The return: pc <- pop16() (R196, R248). -/
def returnToPopped (s : State) : Result := pop16 s fun v t => .next (t.jump v)

/-! ## The I/O space -/

/-- IoRead(port) (R41, R220): the byte the environment presents, the next scripted one or else a free value, and the
state after it has been presented (log 4). -/
def State.ioRead (s : State) (port : Byte) : Byte × State :=
  match s.portIn with
  | v :: rest => (v, { s with portIn := rest })
  | [] => (Config.portDraw s.draws port, s.drew)

/-- IoWrite(port, v) (R41, R221): an output event. -/
def State.ioWrite (s : State) (port v : Byte) : State := s.emit (.port port v)

/-! ## Taking an interrupt (60_exceptions.md; INTERRUPT_MODEL = i8085) -/

/-- The five interrupt sources (R241). -/
inductive IntSource where
  | trap | rst75 | rst65 | rst55 | intr
deriving DecidableEq, Repr

/-- The fixed entry address of a source; none for INTR, whose device supplies an instruction (R241, R252). -/
def IntSource.vector : IntSource → Option Word
  | .trap => some 0x0024#16
  | .rst75 => some 0x003C#16
  | .rst65 => some 0x0034#16
  | .rst55 => some 0x002C#16
  | .intr => none

/-- What every entry does to the control state, and what TRAP and RST 7.5 add to it (R246, R247, R250). The masks are
unchanged. -/
def Ctl.acknowledge (c : Ctl) (src : IntSource) : Ctl :=
  let c' := { c with ie := false, eiPending := false, halted := false }
  match src with
  | .trap => { c' with trapIe := c.ie, trapSeen := true, trapLatch := false }
  | .rst75 => { c' with i75 := false }
  | .rst65 | .rst55 | .intr => c'

/-- The entry of a vectored source (R246): between steps pc is the address of the instruction that would have executed
next; it is pushed, and nothing else is saved. -/
def State.takeVectored (s : State) (src : IntSource) (target : Word) : State :=
  (s.setCtl (s.ctl.acknowledge src)).call s.pc target

end Sys2Proof.Machine
end

