-- ==== Sys2Proof/Machine/Operands.lean ====
section
/-! DEFINITION. The operand forms: registers, register pairs and the memory byte at (HL) (20_memory.md R56). Immediate,
direct and port operands are in the instruction term itself. -/

namespace Sys2Proof.Machine

/-- `x[i]`: the content of a general register (R7, R10). -/
def Regs.get (x : Regs) : Reg → Byte
  | .b => x.b
  | .c => x.c
  | .d => x.d
  | .e => x.e
  | .h => x.h
  | .l => x.l
  | .a => x.a

/-- `x[i] <- v` (R7, R10). -/
def Regs.set (x : Regs) (r : Reg) (v : Byte) : Regs :=
  match r with
  | .b => { x with b := v }
  | .c => { x with c := v }
  | .d => { x with d := v }
  | .e => { x with e := v }
  | .h => { x with h := v }
  | .l => { x with l := v }
  | .a => { x with a := v }

/-- Read a register. -/
def State.reg (s : State) (r : Reg) : Byte := s.regs.get r

/-- Write a register. -/
def State.setReg (s : State) (r : Reg) (v : Byte) : State := { s with regs := s.regs.set r v }

/-- The accumulator (R10). -/
def State.acc (s : State) : Byte := s.reg .a

/-- Write the accumulator. -/
def State.setAcc (s : State) (v : Byte) : State := s.setReg .a v

/-- `xp[j]`: the content of a register pair, the first-named register in the high byte, or SP (R7, R11). -/
def State.pair (s : State) : Pair → Word
  | .bc => joinBytes s.regs.b s.regs.c
  | .de => joinBytes s.regs.d s.regs.e
  | .hl => joinBytes s.regs.h s.regs.l
  | .sp => s.sp

/-- `xp[j] <- w` (R7, R11). -/
def State.setPair (s : State) (pair : Pair) (w : Word) : State :=
  match pair with
  | .bc => { s with regs := { s.regs with b := highByte w, c := lowByte w } }
  | .de => { s with regs := { s.regs with d := highByte w, e := lowByte w } }
  | .hl => { s with regs := { s.regs with h := highByte w, l := lowByte w } }
  | .sp => { s with sp := w }

/-- HL, the address of the operand M (R10, R12). -/
def State.hl (s : State) : Word := s.pair .hl

/-- Read the operand M, the memory byte at (HL). -/
def loadM (s : State) (k : Byte → Result) : Result := loadByte s s.hl k

/-- Write the operand M. -/
def State.storeM (s : State) (v : Byte) : State := s.store s.hl v

end Sys2Proof.Machine
end

