-- ==== Sys2Proof/Machine/Arithmetic.lean ====
section
/-! DEFINITION. The meanings of the arithmetic instructions (41_arithmetic.md R121 to R139, R150 to R153). -/

namespace Sys2Proof.Machine

/-! ## Shared operations -/

/-- `A <- A + v + cin` with all five flags (R121 to R126). -/
def State.addAcc (s : State) (v : Byte) (cin : Bool) : State :=
  let o := add8 s.acc v cin
  (s.setAcc o.res).setFlags (s.flags.ofAlu o)

/-- `A <- A - v - bin` with all five flags (R127 to R132). -/
def State.subAcc (s : State) (v : Byte) (bin : Bool) : State :=
  let o := sub8 s.params.acSub s.acc v bin
  (s.setAcc o.res).setFlags (s.flags.ofAlu o)

/-- The flags of `A - v`; A is not written (R151 to R153). -/
def State.cmpAcc (s : State) (v : Byte) : State := s.setFlags (s.flags.ofAlu (sub8 s.params.acSub s.acc v false))

/-- `v + 1` as INR computes it (R133, R134). -/
def incByte (v : Byte) : AluOut := add8 v 1 false

/-- `v - 1` as DCR computes it (R135, R136). -/
def decByte (mode : AcSub) (v : Byte) : AluOut := sub8 mode v 1 false

/-! ## Add -/

/-- `ADD r` (R121). -/
def execAddR (r : Reg) (s : State) : Result := .next ((s.addAcc (s.reg r) false).advance 1)

/-- `ADD M` (R122). -/
def execAddM (s : State) : Result := loadM s fun v => .next ((s.addAcc v false).advance 1)

/-- `ADI byte` (R123). -/
def execAdi (v : Byte) (s : State) : Result := .next ((s.addAcc v false).advance 2)

/-- `ADC r` (R124), the CY read being the value before the instruction. -/
def execAdcR (r : Reg) (s : State) : Result := .next ((s.addAcc (s.reg r) s.flags.cy).advance 1)

/-- `ADC M` (R125). -/
def execAdcM (s : State) : Result := loadM s fun v => .next ((s.addAcc v s.flags.cy).advance 1)

/-- `ACI byte` (R126). -/
def execAci (v : Byte) (s : State) : Result := .next ((s.addAcc v s.flags.cy).advance 2)

/-! ## Subtract -/

/-- `SUB r` (R127). -/
def execSubR (r : Reg) (s : State) : Result := .next ((s.subAcc (s.reg r) false).advance 1)

/-- `SUB M` (R128). -/
def execSubM (s : State) : Result := loadM s fun v => .next ((s.subAcc v false).advance 1)

/-- `SUI byte` (R129). -/
def execSui (v : Byte) (s : State) : Result := .next ((s.subAcc v false).advance 2)

/-- `SBB r` (R130), the CY read being the value before the instruction. -/
def execSbbR (r : Reg) (s : State) : Result := .next ((s.subAcc (s.reg r) s.flags.cy).advance 1)

/-- `SBB M` (R131). -/
def execSbbM (s : State) : Result := loadM s fun v => .next ((s.subAcc v s.flags.cy).advance 1)

/-- `SBI byte` (R132). -/
def execSbi (v : Byte) (s : State) : Result := .next ((s.subAcc v s.flags.cy).advance 2)

/-! ## Increment and decrement -/

/-- `INR r` (R133): CY unchanged. -/
def execInrR (r : Reg) (s : State) : Result :=
  let o := incByte (s.reg r)
  .next (((s.setReg r o.res).setFlags (s.flags.ofIncDec o)).advance 1)

/-- `INR M` (R134): a read, then a write, of the same address. -/
def execInrM (s : State) : Result := loadM s fun v =>
  let o := incByte v
  .next (((s.storeM o.res).setFlags (s.flags.ofIncDec o)).advance 1)

/-- `DCR r` (R135): CY unchanged. -/
def execDcrR (r : Reg) (s : State) : Result :=
  let o := decByte s.params.acSub (s.reg r)
  .next (((s.setReg r o.res).setFlags (s.flags.ofIncDec o)).advance 1)

/-- `DCR M` (R136). -/
def execDcrM (s : State) : Result := loadM s fun v =>
  let o := decByte s.params.acSub v
  .next (((s.storeM o.res).setFlags (s.flags.ofIncDec o)).advance 1)

/-- `INX rp` (R137): no flag. -/
def execInx (pair : Pair) (s : State) : Result := .next ((s.setPair pair (s.pair pair + 1)).advance 1)

/-- `DCX rp` (R138): no flag. -/
def execDcx (pair : Pair) (s : State) : Result := .next ((s.setPair pair (s.pair pair - 1)).advance 1)

/-! ## 16-bit add, decimal adjust -/

/-- `DAD rp` (R139): CY only. -/
def execDad (pair : Pair) (s : State) : Result :=
  let o := add16 s.hl (s.pair pair)
  .next (((s.setPair .hl o.1).setCy o.2).advance 1)

/-- `DAA` (R150): the flags by DAA_FLAGS. -/
def execDaa (s : State) : Result :=
  let o := daaAdjust s.acc s.flags.ac s.flags.cy
  .next (((s.setAcc o.res).setFlags (s.flags.ofDaa s.params.daaFlags o)).advance 1)

/-! ## Compare -/

/-- `CMP r` (R151). -/
def execCmpR (r : Reg) (s : State) : Result := .next ((s.cmpAcc (s.reg r)).advance 1)

/-- `CMP M` (R152). -/
def execCmpM (s : State) : Result := loadM s fun v => .next ((s.cmpAcc v).advance 1)

/-- `CPI byte` (R153). -/
def execCpi (v : Byte) (s : State) : Result := .next ((s.cmpAcc v).advance 2)

end Sys2Proof.Machine
end

