-- ==== Sys2Proof/Machine/Branch.lean ====
section
/-! DEFINITION. The meanings of the jump, call, return and restart instructions (44_branch.md R191 to R199). None writes
a flag; a condition is evaluated on the flags before the instruction (R190). -/

namespace Sys2Proof.Machine

/-! ## Shared operations -/

/-- `Jccc dir` (R192): the untaken jump still skips its operand bytes. -/
def jumpIf (cond : Cond) (dir : Word) (s : State) : Result :=
  .next (if s.flags.holds cond then s.jump dir else s.advance 3)

/-- `Cccc dir` (R195): the untaken call pushes nothing. -/
def callIf (cond : Cond) (dir : Word) (s : State) : Result :=
  .next (if s.flags.holds cond then s.call (s.nextPc 3) dir else s.advance 3)

/-- `Rccc` (R197): the untaken return does not read the stack. -/
def returnIf (cond : Cond) (s : State) : Result :=
  if s.flags.holds cond then returnToPopped s else .next (s.advance 1)

/-- `n x 8`, the target of RST n (R198). -/
def rstTarget (n : BitVec 3) : Word := n.zeroExtend 16 * 8

/-! ## Jumps -/

/-- `JMP dir` (R191). -/
def execJmp (dir : Word) (s : State) : Result := .next (s.jump dir)

/-- `JNZ dir` (R192). -/
def execJnz (dir : Word) (s : State) : Result := jumpIf .nz dir s

/-- `JZ dir` (R192). -/
def execJz (dir : Word) (s : State) : Result := jumpIf .z dir s

/-- `JNC dir` (R192). -/
def execJnc (dir : Word) (s : State) : Result := jumpIf .nc dir s

/-- `JC dir` (R192). -/
def execJc (dir : Word) (s : State) : Result := jumpIf .c dir s

/-- `JPO dir` (R192). -/
def execJpo (dir : Word) (s : State) : Result := jumpIf .po dir s

/-- `JPE dir` (R192). -/
def execJpe (dir : Word) (s : State) : Result := jumpIf .pe dir s

/-- `JP dir` (R192). -/
def execJp (dir : Word) (s : State) : Result := jumpIf .p dir s

/-- `JM dir` (R192). -/
def execJm (dir : Word) (s : State) : Result := jumpIf .m dir s

/-- `PCHL` (R199): memory is not read. -/
def execPchl (s : State) : Result := .next (s.jump s.hl)

/-! ## Calls -/

/-- `CALL dir` (R193): the address saved is that of the next instruction (R16). -/
def execCall (dir : Word) (s : State) : Result := .next (s.call (s.nextPc 3) dir)

/-- `CNZ dir` (R195). -/
def execCnz (dir : Word) (s : State) : Result := callIf .nz dir s

/-- `CZ dir` (R195). -/
def execCz (dir : Word) (s : State) : Result := callIf .z dir s

/-- `CNC dir` (R195). -/
def execCnc (dir : Word) (s : State) : Result := callIf .nc dir s

/-- `CC dir` (R195). -/
def execCc (dir : Word) (s : State) : Result := callIf .c dir s

/-- `CPO dir` (R195). -/
def execCpo (dir : Word) (s : State) : Result := callIf .po dir s

/-- `CPE dir` (R195). -/
def execCpe (dir : Word) (s : State) : Result := callIf .pe dir s

/-- `CP dir` (R195). -/
def execCp (dir : Word) (s : State) : Result := callIf .p dir s

/-- `CM dir` (R195). -/
def execCm (dir : Word) (s : State) : Result := callIf .m dir s

/-- `RST n` (R198): a one-byte call. -/
def execRst (n : BitVec 3) (s : State) : Result := .next (s.call (s.nextPc 1) (rstTarget n))

/-! ## Returns -/

/-- `RET` (R196), also the return from an interrupt (R248). -/
def execRet (s : State) : Result := returnToPopped s

/-- `RNZ` (R197). -/
def execRnz (s : State) : Result := returnIf .nz s

/-- `RZ` (R197). -/
def execRz (s : State) : Result := returnIf .z s

/-- `RNC` (R197). -/
def execRnc (s : State) : Result := returnIf .nc s

/-- `RC` (R197). -/
def execRc (s : State) : Result := returnIf .c s

/-- `RPO` (R197). -/
def execRpo (s : State) : Result := returnIf .po s

/-- `RPE` (R197). -/
def execRpe (s : State) : Result := returnIf .pe s

/-- `RP` (R197). -/
def execRp (s : State) : Result := returnIf .p s

/-- `RM` (R197). -/
def execRm (s : State) : Result := returnIf .m s

end Sys2Proof.Machine
end

