-- ==== Sys2Proof/Machine/Control.lean ====
section
/-! DEFINITION. The meanings of the processor control instructions (47_control.md R225 to R231). None writes a flag and
none is privileged (R224). EI, DI and SIM write their control state under both values of INTERRUPT_MODEL: under `none`
no rule reads it (R225, R231, R253, log 9). -/

namespace Sys2Proof.Machine

/-- Does an EI start the one-instruction delay (R225, EI_DELAY)? -/
def eiStartsDelay (d : EiDelay) : Bool :=
  match d with
  | .one => true
  | .zero => false

/-- The control state after EI (R225). With EI_DELAY = 0 EI_PENDING is never set. -/
def Ctl.enable (c : Ctl) (d : EiDelay) : Ctl := { c with ie := true, eiPending := eiStartsDelay d }

/-- The control state after DI (R226); the masks and the latches are unchanged. -/
def Ctl.disable (c : Ctl) : Ctl := { c with ie := false, eiPending := false }

/-- `EI` (R225). -/
def execEi (s : State) : Result := .next ((s.setCtl (s.ctl.enable s.params.eiDelay)).advance 1)

/-- `DI` (R226). -/
def execDi (s : State) : Result := .next ((s.setCtl s.ctl.disable).advance 1)

/-- `NOP` (R227). -/
def execNop (s : State) : Result := .next (s.advance 1)

/-- `HLT` (R228): pc is past the HLT; what a halted processor does next is the step's (R251, U9). -/
def execHlt (s : State) : Result := .next ((s.setCtl { s.ctl with halted := true }).advance 1)

/-- The byte RIM loads (R230, layout D19): SID, I7.5, I6.5, I5.5, IE, M7.5, M6.5, M5.5, where IE is TRAP_IE for the
first RIM after a TRAP entry. -/
def State.rimByte (s : State) : Byte :=
  packBits s.lines.sid s.ctl.i75 s.lines.rst65 s.lines.rst55
    (if s.ctl.trapSeen then s.ctl.trapIe else s.ctl.ie) s.ctl.m75 s.ctl.m65 s.ctl.m55

/-- The control state after RIM: the first RIM after a TRAP entry, the one that finds TRAP_SEEN at 1, clears TRAP_SEEN
(R230) and TRAP_IE (R26); any other RIM changes nothing (log 29). -/
def Ctl.rimClear (c : Ctl) : Ctl := if c.trapSeen then { c with trapIe := false, trapSeen := false } else c

/-- `RIM` (R230): under `i8085` the status byte, and what a TRAP entry recorded is cleared; under `none` a free value (U5,
log 6). -/
def execRim (s : State) : Result :=
  match s.params.interruptModel with
  | .i8085 => .next (((s.setAcc s.rimByte).setCtl s.ctl.rimClear).advance 1)
  | .none => .next (((s.setAcc (Config.rimDraw s.draws)).drew).advance 1)

/-- SIM's effect on the masks: written from bits 2, 1 and 0 when bit 3 (MSE) is 1 (R231). -/
def Ctl.simMasks (c : Ctl) (v : Byte) : Ctl :=
  if v.getLsbD 3 then { c with m75 := v.getLsbD 2, m65 := v.getLsbD 1, m55 := v.getLsbD 0 } else c

/-- SIM's effect on the RST 7.5 latch: cleared when bit 4 (R7.5) is 1, whatever MSE is (R231). -/
def Ctl.simReset75 (c : Ctl) (v : Byte) : Ctl := if v.getLsbD 4 then { c with i75 := false } else c

/-- SIM's effect on the serial output: when bit 6 (SOE) is 1, SOD takes bit 7, an output event (R231). -/
def State.simSerial (s : State) (v : Byte) : State :=
  if v.getLsbD 6 then (s.setCtl { s.ctl with sod := v.getLsbD 7 }).emit (.sod (v.getLsbD 7)) else s

/-- `SIM` (R231): A is read only, and bit 5 is ignored. -/
def execSim (s : State) : Result :=
  .next (((s.setCtl ((s.ctl.simMasks s.acc).simReset75 s.acc)).simSerial s.acc).advance 1)

end Sys2Proof.Machine
end

