-- ==== Sys2Proof/Machine/InOut.lean ====
section
/-! DEFINITION. The meanings of the input and output instructions (46_io.md R220, R221). -/

namespace Sys2Proof.Machine

/-- `IN porta` (R220): no flag. -/
def execInPort (port : Byte) (s : State) : Result :=
  let o := s.ioRead port
  .next ((o.2.setAcc o.1).advance 2)

/-- `OUT porta` (R221): an output event; A and memory unchanged. -/
def execOutPort (port : Byte) (s : State) : Result := .next ((s.ioWrite port s.acc).advance 2)

end Sys2Proof.Machine
end

