-- ==== Sys2Proof/Machine/Logical.lean ====
section
/-! DEFINITION. The meanings of the logical instructions (42_logical.md R160 to R170). -/

namespace Sys2Proof.Machine

/-- `A <- A op v` with all five flags: S, Z, P from the result, CY 0, AC by LOGIC_AC (R160). -/
def State.logicAcc (s : State) (op : LogicOp) (v : Byte) : State :=
  let res := op.apply s.acc v
  (s.setAcc res).setFlags (s.flags.ofLogic s.params.logicAc op res)

/-- `ANA r` (R161). -/
def execAnaR (r : Reg) (s : State) : Result := .next ((s.logicAcc .and (s.reg r)).advance 1)

/-- `ANA M` (R162). -/
def execAnaM (s : State) : Result := loadM s fun v => .next ((s.logicAcc .and v).advance 1)

/-- `ANI byte` (R163). -/
def execAni (v : Byte) (s : State) : Result := .next ((s.logicAcc .and v).advance 2)

/-- `XRA r` (R164). -/
def execXraR (r : Reg) (s : State) : Result := .next ((s.logicAcc .xor (s.reg r)).advance 1)

/-- `XRA M` (R165). -/
def execXraM (s : State) : Result := loadM s fun v => .next ((s.logicAcc .xor v).advance 1)

/-- `XRI byte` (R166). -/
def execXri (v : Byte) (s : State) : Result := .next ((s.logicAcc .xor v).advance 2)

/-- `ORA r` (R167). -/
def execOraR (r : Reg) (s : State) : Result := .next ((s.logicAcc .or (s.reg r)).advance 1)

/-- `ORA M` (R168). -/
def execOraM (s : State) : Result := loadM s fun v => .next ((s.logicAcc .or v).advance 1)

/-- `ORI byte` (R169). -/
def execOri (v : Byte) (s : State) : Result := .next ((s.logicAcc .or v).advance 2)

/-- `CMA` (R170): each bit inverted, no flag. -/
def execCma (s : State) : Result := .next ((s.setAcc (~~~s.acc)).advance 1)

end Sys2Proof.Machine
end

