-- ==== Sys2Proof/Machine/Rotate.lean ====
section
/-! DEFINITION. The meanings of the rotate and flag instructions (43_rotate_flags.md R181 to R186): CY and no other flag
is written (R180). -/

namespace Sys2Proof.Machine

/-- `RLC` (R181): bit 7 goes to bit 0 and to CY. -/
def execRlc (s : State) : Result :=
  .next (((s.setAcc (shiftInLow s.acc (s.acc.getLsbD 7))).setCy (s.acc.getLsbD 7)).advance 1)

/-- `RRC` (R182): bit 0 goes to bit 7 and to CY. -/
def execRrc (s : State) : Result :=
  .next (((s.setAcc (shiftInHigh s.acc (s.acc.getLsbD 0))).setCy (s.acc.getLsbD 0)).advance 1)

/-- `RAL` (R183): the old CY enters bit 0, bit 7 leaves into CY. -/
def execRal (s : State) : Result :=
  .next (((s.setAcc (shiftInLow s.acc s.flags.cy)).setCy (s.acc.getLsbD 7)).advance 1)

/-- `RAR` (R184): the old CY enters bit 7, bit 0 leaves into CY. -/
def execRar (s : State) : Result :=
  .next (((s.setAcc (shiftInHigh s.acc s.flags.cy)).setCy (s.acc.getLsbD 0)).advance 1)

/-- `CMC` (R185). -/
def execCmc (s : State) : Result := .next ((s.setCy (!s.flags.cy)).advance 1)

/-- `STC` (R186). -/
def execStc (s : State) : Result := .next ((s.setCy true).advance 1)

end Sys2Proof.Machine
end

