-- ==== Sys2Proof/Machine/Stack.lean ====
section
/-! DEFINITION. The meanings of the stack instructions (45_stack.md R211 to R216). -/

namespace Sys2Proof.Machine

/-- `PUSH rp` (R211). -/
def execPushRp (pair : Pair) (s : State) : Result := .next ((s.push16 (s.pair pair)).advance 1)

/-- `PUSH PSW` (R212): A in the high byte, RF in the low byte; its bits 5, 3 and 1 are a fresh free value (R21, log 5). -/
def execPushPsw (s : State) : Result :=
  .next (((s.push16 (joinBytes s.acc (s.flags.toByte (Config.spareDraw s.draws)))).drew).advance 1)

/-- `POP rp` (R213). -/
def execPopRp (pair : Pair) (s : State) : Result := pop16 s fun v t => .next ((t.setPair pair v).advance 1)

/-- `POP PSW` (R214): all five flags from the popped low byte, A from the high byte. -/
def execPopPsw (s : State) : Result := pop16 s fun v t =>
  .next (((t.setFlags (Flags.ofByte (lowByte v))).setAcc (highByte v)).advance 1)

/-- `XTHL` (R215): both bytes are read, then both written (R45); SP unchanged. -/
def execXthl (s : State) : Result :=
  loadByte s s.sp fun lo => loadByte s (s.sp + 1) fun hi =>
    .next (((((s.store (s.sp + 1) (s.reg .h)).store s.sp (s.reg .l)).setPair .hl (joinBytes hi lo))).advance 1)

/-- `SPHL` (R216). -/
def execSphl (s : State) : Result := .next ((s.setSp s.hl).advance 1)

end Sys2Proof.Machine
end

