-- ==== Sys2Proof/Machine/Transfer.lean ====
section
/-! DEFINITION. The meanings of the transfer instructions (40_transfer.md R101 to R113). None writes a flag (R100). -/

namespace Sys2Proof.Machine

/-- `MOV r1, r2` (R101). -/
def execMovRR (dst src : Reg) (s : State) : Result := .next ((s.setReg dst (s.reg src)).advance 1)

/-- `MOV r, M` (R102): the address is formed from the old H and L. -/
def execMovRM (dst : Reg) (s : State) : Result := loadM s fun v => .next ((s.setReg dst v).advance 1)

/-- `MOV M, r` (R103). -/
def execMovMR (src : Reg) (s : State) : Result := .next ((s.storeM (s.reg src)).advance 1)

/-- `MVI r, byte` (R104). -/
def execMviR (dst : Reg) (v : Byte) (s : State) : Result := .next ((s.setReg dst v).advance 2)

/-- `MVI M, byte` (R105). -/
def execMviM (v : Byte) (s : State) : Result := .next ((s.storeM v).advance 2)

/-- `LXI rp, dobreB` (R106). -/
def execLxi (pair : Pair) (w : Word) (s : State) : Result := .next ((s.setPair pair w).advance 3)

/-- `LDA dir` (R107). -/
def execLda (dir : Word) (s : State) : Result := loadByte s dir fun v => .next ((s.setAcc v).advance 3)

/-- `STA dir` (R108). -/
def execSta (dir : Word) (s : State) : Result := .next ((s.store dir s.acc).advance 3)

/-- `LHLD dir` (R109): L from dir, then H from dir + 1. -/
def execLhld (dir : Word) (s : State) : Result :=
  loadByte s dir fun lo => loadByte s (dir + 1) fun hi => .next ((s.setPair .hl (joinBytes hi lo)).advance 3)

/-- `SHLD dir` (R110): L to dir, then H to dir + 1. -/
def execShld (dir : Word) (s : State) : Result :=
  .next (((s.store dir (s.reg .l)).store (dir + 1) (s.reg .h)).advance 3)

/-- `LDAX rp` (R111). -/
def execLdax (pair : Pair) (s : State) : Result := loadByte s (s.pair pair) fun v => .next ((s.setAcc v).advance 1)

/-- `STAX rp` (R112). -/
def execStax (pair : Pair) (s : State) : Result := .next ((s.store (s.pair pair) s.acc).advance 1)

/-- `XCHG` (R113). -/
def execXchg (s : State) : Result :=
  .next (((s.setPair .hl (s.pair .de)).setPair .de (s.pair .hl)).advance 1)

end Sys2Proof.Machine
end

