-- ==== Sys2Proof/Machine/Unassigned.lean ====
section
/-! DEFINITION. The ten first-byte values that no row of the card produces (30_encoding.md R75, U1): the model gives them
no meaning and refuses them by the spec's own name, refuse(unassigned_opcode). -/

namespace Sys2Proof.Machine

/-- 08h (R75): refused. -/
def execUnassigned08 (_ : State) : Result := .refused (.unassignedOpcode 0x08#8)

/-- 10h (R75): refused. -/
def execUnassigned10 (_ : State) : Result := .refused (.unassignedOpcode 0x10#8)

/-- 18h (R75): refused. -/
def execUnassigned18 (_ : State) : Result := .refused (.unassignedOpcode 0x18#8)

/-- 28h (R75): refused. -/
def execUnassigned28 (_ : State) : Result := .refused (.unassignedOpcode 0x28#8)

/-- 38h (R75): refused. -/
def execUnassigned38 (_ : State) : Result := .refused (.unassignedOpcode 0x38#8)

/-- CBh (R75): refused. -/
def execUnassignedCB (_ : State) : Result := .refused (.unassignedOpcode 0xCB#8)

/-- D9h (R75): refused. -/
def execUnassignedD9 (_ : State) : Result := .refused (.unassignedOpcode 0xD9#8)

/-- DDh (R75): refused. -/
def execUnassignedDD (_ : State) : Result := .refused (.unassignedOpcode 0xDD#8)

/-- EDh (R75): refused. -/
def execUnassignedED (_ : State) : Result := .refused (.unassignedOpcode 0xED#8)

/-- FDh (R75): refused. -/
def execUnassignedFD (_ : State) : Result := .refused (.unassignedOpcode 0xFD#8)

end Sys2Proof.Machine
end

