-- ==== Sys2Proof/Machine/Dispatch.lean ====
section
/-! DEFINITION. One arm for each instruction: a direct call of its meaning. -/

namespace Sys2Proof.Machine

def exec (i : Instr) (s : State) : Host.Outcome State Fault Refusal :=
  match i with
  -- Transfer instructions (40_transfer.md)
  | .movRR dst src => Sys2Proof.Machine.execMovRR dst src s
  | .movRM dst => Sys2Proof.Machine.execMovRM dst s
  | .movMR src => Sys2Proof.Machine.execMovMR src s
  | .mviR dst v => Sys2Proof.Machine.execMviR dst v s
  | .mviM v => Sys2Proof.Machine.execMviM v s
  | .lxi pair w => Sys2Proof.Machine.execLxi pair w s
  | .lda dir => Sys2Proof.Machine.execLda dir s
  | .sta dir => Sys2Proof.Machine.execSta dir s
  | .lhld dir => Sys2Proof.Machine.execLhld dir s
  | .shld dir => Sys2Proof.Machine.execShld dir s
  | .ldax pair => Sys2Proof.Machine.execLdax pair s
  | .stax pair => Sys2Proof.Machine.execStax pair s
  | .xchg => Sys2Proof.Machine.execXchg s
  -- Arithmetic instructions (41_arithmetic.md)
  | .addR r => Sys2Proof.Machine.execAddR r s
  | .addM => Sys2Proof.Machine.execAddM s
  | .adi v => Sys2Proof.Machine.execAdi v s
  | .adcR r => Sys2Proof.Machine.execAdcR r s
  | .adcM => Sys2Proof.Machine.execAdcM s
  | .aci v => Sys2Proof.Machine.execAci v s
  | .subR r => Sys2Proof.Machine.execSubR r s
  | .subM => Sys2Proof.Machine.execSubM s
  | .sui v => Sys2Proof.Machine.execSui v s
  | .sbbR r => Sys2Proof.Machine.execSbbR r s
  | .sbbM => Sys2Proof.Machine.execSbbM s
  | .sbi v => Sys2Proof.Machine.execSbi v s
  | .inrR r => Sys2Proof.Machine.execInrR r s
  | .inrM => Sys2Proof.Machine.execInrM s
  | .dcrR r => Sys2Proof.Machine.execDcrR r s
  | .dcrM => Sys2Proof.Machine.execDcrM s
  | .inx pair => Sys2Proof.Machine.execInx pair s
  | .dcx pair => Sys2Proof.Machine.execDcx pair s
  | .dad pair => Sys2Proof.Machine.execDad pair s
  | .daa => Sys2Proof.Machine.execDaa s
  | .cmpR r => Sys2Proof.Machine.execCmpR r s
  | .cmpM => Sys2Proof.Machine.execCmpM s
  | .cpi v => Sys2Proof.Machine.execCpi v s
  -- Logical instructions (42_logical.md)
  | .anaR r => Sys2Proof.Machine.execAnaR r s
  | .anaM => Sys2Proof.Machine.execAnaM s
  | .ani v => Sys2Proof.Machine.execAni v s
  | .xraR r => Sys2Proof.Machine.execXraR r s
  | .xraM => Sys2Proof.Machine.execXraM s
  | .xri v => Sys2Proof.Machine.execXri v s
  | .oraR r => Sys2Proof.Machine.execOraR r s
  | .oraM => Sys2Proof.Machine.execOraM s
  | .ori v => Sys2Proof.Machine.execOri v s
  | .cma => Sys2Proof.Machine.execCma s
  -- Rotate and flag instructions (43_rotate_flags.md)
  | .rlc => Sys2Proof.Machine.execRlc s
  | .rrc => Sys2Proof.Machine.execRrc s
  | .ral => Sys2Proof.Machine.execRal s
  | .rar => Sys2Proof.Machine.execRar s
  | .cmc => Sys2Proof.Machine.execCmc s
  | .stc => Sys2Proof.Machine.execStc s
  -- Jump, call, return and restart instructions (44_branch.md)
  | .jmp dir => Sys2Proof.Machine.execJmp dir s
  | .jnz dir => Sys2Proof.Machine.execJnz dir s
  | .jz dir => Sys2Proof.Machine.execJz dir s
  | .jnc dir => Sys2Proof.Machine.execJnc dir s
  | .jc dir => Sys2Proof.Machine.execJc dir s
  | .jpo dir => Sys2Proof.Machine.execJpo dir s
  | .jpe dir => Sys2Proof.Machine.execJpe dir s
  | .jp dir => Sys2Proof.Machine.execJp dir s
  | .jm dir => Sys2Proof.Machine.execJm dir s
  | .call dir => Sys2Proof.Machine.execCall dir s
  | .cnz dir => Sys2Proof.Machine.execCnz dir s
  | .cz dir => Sys2Proof.Machine.execCz dir s
  | .cnc dir => Sys2Proof.Machine.execCnc dir s
  | .cc dir => Sys2Proof.Machine.execCc dir s
  | .cpo dir => Sys2Proof.Machine.execCpo dir s
  | .cpe dir => Sys2Proof.Machine.execCpe dir s
  | .cp dir => Sys2Proof.Machine.execCp dir s
  | .cm dir => Sys2Proof.Machine.execCm dir s
  | .ret => Sys2Proof.Machine.execRet s
  | .rnz => Sys2Proof.Machine.execRnz s
  | .rz => Sys2Proof.Machine.execRz s
  | .rnc => Sys2Proof.Machine.execRnc s
  | .rc => Sys2Proof.Machine.execRc s
  | .rpo => Sys2Proof.Machine.execRpo s
  | .rpe => Sys2Proof.Machine.execRpe s
  | .rp => Sys2Proof.Machine.execRp s
  | .rm => Sys2Proof.Machine.execRm s
  | .rst n => Sys2Proof.Machine.execRst n s
  | .pchl => Sys2Proof.Machine.execPchl s
  -- Stack instructions (45_stack.md)
  | .pushRp pair => Sys2Proof.Machine.execPushRp pair s
  | .pushPsw => Sys2Proof.Machine.execPushPsw s
  | .popRp pair => Sys2Proof.Machine.execPopRp pair s
  | .popPsw => Sys2Proof.Machine.execPopPsw s
  | .xthl => Sys2Proof.Machine.execXthl s
  | .sphl => Sys2Proof.Machine.execSphl s
  -- Input and output instructions (46_io.md)
  | .inPort port => Sys2Proof.Machine.execInPort port s
  | .outPort port => Sys2Proof.Machine.execOutPort port s
  -- Processor control instructions (47_control.md)
  | .ei => Sys2Proof.Machine.execEi s
  | .di => Sys2Proof.Machine.execDi s
  | .nop => Sys2Proof.Machine.execNop s
  | .hlt => Sys2Proof.Machine.execHlt s
  | .rim => Sys2Proof.Machine.execRim s
  | .sim => Sys2Proof.Machine.execSim s
  -- Unassigned first-byte values (30_encoding.md R75)
  | .unassigned08 => Sys2Proof.Machine.execUnassigned08 s
  | .unassigned10 => Sys2Proof.Machine.execUnassigned10 s
  | .unassigned18 => Sys2Proof.Machine.execUnassigned18 s
  | .unassigned28 => Sys2Proof.Machine.execUnassigned28 s
  | .unassigned38 => Sys2Proof.Machine.execUnassigned38 s
  | .unassignedCB => Sys2Proof.Machine.execUnassignedCB s
  | .unassignedD9 => Sys2Proof.Machine.execUnassignedD9 s
  | .unassignedDD => Sys2Proof.Machine.execUnassignedDD s
  | .unassignedED => Sys2Proof.Machine.execUnassignedED s
  | .unassignedFD => Sys2Proof.Machine.execUnassignedFD s

end Sys2Proof.Machine
end

