-- ==== Sys2Proof/Machine/Interrupt.lean ====
section
/-! DEFINITION. What happens between instructions: sampling the environment, deciding which interrupt is accepted, and the
reset event (60_exceptions.md R241 to R245, 70_reset_and_hazards.md R280, R281). -/

namespace Sys2Proof.Machine

/-- What one environment event does to the control state: a rising edge sets the latch of RST 7.5 or TRAP, whether or
not the interrupt is enabled or masked (R243). A TRAP line that is high now and was low has risen (log 25). -/
def Ctl.latchEdges (c : Ctl) (before : Lines) (e : EnvEvent) : Ctl :=
  { c with
    i75 := c.i75 || e.rise75
    trapLatch := c.trapLatch || e.riseTrap || (e.lines.trap && !before.trap) }

/-- Sample the environment once (R245): take the next scripted event; with none left the lines hold their level. -/
def State.sample (s : State) : State :=
  match s.script with
  | [] => s
  | e :: rest => { s with lines := e.lines, script := rest, ctl := s.ctl.latchEdges s.lines e }

/-- Does the coming event assert the reset pin? -/
def State.resetAsserted (s : State) : Bool :=
  match s.script with
  | [] => false
  | e :: _ => e.reset

/-- Can a request of this source be accepted now? TRAP: its latch is set and its line still high, whatever IE,
EI_PENDING and the masks are (R241, R250). The others need IE = 1 and EI_PENDING = 0, and the RST sources an open mask
(R242, R243). -/
def State.acceptable (s : State) : IntSource → Bool
  | .trap => s.ctl.trapLatch && s.lines.trap
  | .rst75 => s.ctl.ie && !s.ctl.eiPending && !s.ctl.m75 && s.ctl.i75
  | .rst65 => s.ctl.ie && !s.ctl.eiPending && !s.ctl.m65 && s.lines.rst65
  | .rst55 => s.ctl.ie && !s.ctl.eiPending && !s.ctl.m55 && s.lines.rst55
  | .intr => s.ctl.ie && !s.ctl.eiPending && s.lines.intr

/-- The sources in their fixed priority, the highest first (R244). -/
def intPriority : List IntSource := [.trap, .rst75, .rst65, .rst55, .intr]

/-- The interrupt accepted at this sampling point, if any (R244). Requests are sampled at the end of an instruction
(R245), so none is accepted before the first instruction after a reset, with whose fetch execution starts (R281); none
under INTERRUPT_MODEL = none (R253). -/
def State.accepted (s : State) : Option IntSource :=
  match s.params.interruptModel with
  | .none => none
  | .i8085 => if s.firstFetch then none else intPriority.find? s.acceptable

/-- The reset event (R280, R281) between two instructions: PC and the control state as after power-on, the registers, SP
and the flags free values, memory as it is (log 12). The first instruction after it is fetched before any request is
accepted (R281). -/
def State.takeReset (s : State) : State :=
  { s with
    regs := ⟨Config.resetRegDraw s.draws .b, Config.resetRegDraw s.draws .c, Config.resetRegDraw s.draws .d,
      Config.resetRegDraw s.draws .e, Config.resetRegDraw s.draws .h, Config.resetRegDraw s.draws .l,
      Config.resetRegDraw s.draws .a⟩
    flags := Flags.ofByte (Config.resetFlagsDraw s.draws)
    sp := Config.resetSpDraw s.draws
    pc := Config.resetPc
    ctl := Ctl.reset
    firstFetch := true
    draws := s.draws + 1 }

end Sys2Proof.Machine
end

