-- ==== Sys2Proof/Machine/Cycle.lean ====
section
/-! DEFINITION. The instruction cycle: fetch, decode, execute, complete; the INTR acknowledge; and what one step is. -/

namespace Sys2Proof.Machine

/-- Fetch the instruction at pc (R48): the first byte, then as many operand bytes as its length needs (R68), at
increasing addresses modulo 2^16 (R43). A byte not fetched is passed on as 0 and ignored. -/
def fetchBytes (s : State) (k : Byte → Byte → Byte → Result) : Result :=
  loadByte s s.pc fun b =>
    match operandCount b with
    | 0 => k b 0 0
    | 1 => loadByte s (s.pc + 1) fun lo => k b lo 0
    | _ => loadByte s (s.pc + 1) fun lo => loadByte s (s.pc + 2) fun hi => k b lo hi

/-- EI_PENDING at the end of an instruction: cleared unless the instruction is an EI (R225, R26). -/
def Ctl.endInstr (c : Ctl) (i : Instr) : Ctl := { c with eiPending := c.eiPending && i.isEi }

/-- The end of an instruction, which is a sampling point (R245): what EI_PENDING becomes, and that the first instruction
after a reset has been executed. -/
def State.endInstr (s : State) (i : Instr) : State := { s with ctl := s.ctl.endInstr i, firstFetch := false }

/-- Execute one instruction and end it. -/
def complete (i : Instr) (s : State) : Result :=
  match exec i s with
  | .next t => .next (t.endInstr i)
  | .fault f => .fault f
  | .refused r => .refused r

/-- Decode three bytes and execute the instruction they begin with on `prepare i`; refuse bytes no row fits (R75). -/
def runBytes (b lo hi : Byte) (prepare : Instr → State) : Result :=
  match decodeBytes b lo hi with
  | some i => complete i (prepare i)
  | none => .refused (.unassignedOpcode b)

/-- Fetch and execute the instruction at pc. -/
def runInstr (s : State) : Result := fetchBytes s fun b lo hi => runBytes b lo hi fun _ => s

/-- The entry for INTR (R247): the control state is acknowledged, and the instruction the device supplies is executed
with `pc + len` replaced by the address of the next instruction, which is pc between steps (log 11). -/
def takeIntr (s : State) : Result :=
  let s := s.setCtl (s.ctl.acknowledge .intr)
  runBytes s.lines.ack0 s.lines.ack1 s.lines.ack2 fun i => s.jump (s.pc - BitVec.ofNat 16 i.length)

/-- Take an accepted interrupt: a vectored entry, or for INTR the supplied instruction (R246, R247). -/
def takeInterrupt (s : State) (src : IntSource) : Result :=
  match src.vector with
  | some target => .next (s.takeVectored src target)
  | none => takeIntr s

/-- A halted processor that accepts nothing: under `i8085` it waits with everything unchanged (R228, R251, R275); under
`none` it never steps again (R228, U9, log 10). -/
def haltedStep (s : State) : Result :=
  match s.params.interruptModel with
  | .none => .fault .halted
  | .i8085 => .next s

/-- One step from a sampled state: the interrupt that is accepted, else the wait of a halted processor, else one
instruction (R244, R245, R251). -/
def cycle (s : State) : Result :=
  match s.accepted with
  | some src => takeInterrupt s src
  | none => if s.ctl.halted then haltedStep s else runInstr s

/-- One step: the environment is sampled (R245, log 8); reset overrides everything (R254, R280). In the first step after a
reset the sample only latches edges and takes the lines: no request is accepted before the instruction at 0000h has
executed (R245, R281, log 30). -/
def stepOnce (s : State) : Result :=
  if s.resetAsserted then .next s.sample.takeReset else cycle s.sample

/-- Store an instruction's three bytes where the next step fetches it: at pc, pc + 1 and pc + 2. -/
def storeFetchWord (s : State) (nbits w : Nat) : State :=
  let w := w % 2 ^ nbits
  ((s.store s.pc (tableByte w 0)).store (s.pc + 1) (tableByte w 1)).store (s.pc + 2) (tableByte w 2)

end Sys2Proof.Machine
end

