-- ==== Sys2Proof/Machine/Step.lean ====
section
/-! DEFINITION. The step function, and where it fetches. -/

namespace Sys2Proof.Machine

/-- One step of the machine: an instruction, an interrupt entry, a reset, or the wait of a halted processor. -/
def step (s : State) : Host.Outcome State Fault Refusal := stepOnce s

/-- `s` with an instruction stored where the next step fetches it; it stands for the load of a program from outside the
machine (log 15). Nothing but memory changes: from a state that is not halted and accepts no interrupt, the next step
runs exactly that instruction. -/
def State.withFetchWord (s : State) (nbits w : Nat) : State := storeFetchWord s nbits w

end Sys2Proof.Machine
end

