-- ==== Sys2Proof/Machine/CardData.lean ====
section
/-! DEFINITION. What else the card says of each instruction, as annotations that no step reads: the state counts (R292,
R293), the addressing modes (R56) and the assembler spelling (R78). -/

namespace Sys2Proof.Machine

/-- The state count of an instruction (R292), with the conditional labels as C2 of 90_conflicts.md corrects them: the
longer count when the condition holds on the flags. None for an unassigned value. -/
def statesOf (i : Instr) (f : Flags) : Option Nat :=
  match i with
  | .movRR _ _ => some 4
  | .movRM _ => some 7
  | .movMR _ => some 7
  | .mviR _ _ => some 7
  | .mviM _ => some 10
  | .lxi _ _ => some 10
  | .lda _ => some 13
  | .sta _ => some 13
  | .lhld _ => some 16
  | .shld _ => some 16
  | .ldax _ => some 7
  | .stax _ => some 7
  | .xchg => some 4
  | .addR _ => some 4
  | .addM => some 7
  | .adi _ => some 7
  | .adcR _ => some 4
  | .adcM => some 7
  | .aci _ => some 7
  | .subR _ => some 4
  | .subM => some 7
  | .sui _ => some 7
  | .sbbR _ => some 4
  | .sbbM => some 7
  | .sbi _ => some 7
  | .inrR _ => some 4
  | .inrM => some 10
  | .dcrR _ => some 4
  | .dcrM => some 10
  | .inx _ => some 6
  | .dcx _ => some 6
  | .dad _ => some 10
  | .daa => some 4
  | .cmpR _ => some 4
  | .cmpM => some 7
  | .cpi _ => some 7
  | .anaR _ => some 4
  | .anaM => some 7
  | .ani _ => some 7
  | .xraR _ => some 4
  | .xraM => some 7
  | .xri _ => some 7
  | .oraR _ => some 4
  | .oraM => some 7
  | .ori _ => some 7
  | .cma => some 4
  | .rlc => some 4
  | .rrc => some 4
  | .ral => some 4
  | .rar => some 4
  | .cmc => some 4
  | .stc => some 4
  | .jmp _ => some 10
  | .jnz _ => if f.holds .nz then some 10 else some 7
  | .jz _ => if f.holds .z then some 10 else some 7
  | .jnc _ => if f.holds .nc then some 10 else some 7
  | .jc _ => if f.holds .c then some 10 else some 7
  | .jpo _ => if f.holds .po then some 10 else some 7
  | .jpe _ => if f.holds .pe then some 10 else some 7
  | .jp _ => if f.holds .p then some 10 else some 7
  | .jm _ => if f.holds .m then some 10 else some 7
  | .call _ => some 18
  | .cnz _ => if f.holds .nz then some 18 else some 9
  | .cz _ => if f.holds .z then some 18 else some 9
  | .cnc _ => if f.holds .nc then some 18 else some 9
  | .cc _ => if f.holds .c then some 18 else some 9
  | .cpo _ => if f.holds .po then some 18 else some 9
  | .cpe _ => if f.holds .pe then some 18 else some 9
  | .cp _ => if f.holds .p then some 18 else some 9
  | .cm _ => if f.holds .m then some 18 else some 9
  | .ret => some 10
  | .rnz => if f.holds .nz then some 12 else some 6
  | .rz => if f.holds .z then some 12 else some 6
  | .rnc => if f.holds .nc then some 12 else some 6
  | .rc => if f.holds .c then some 12 else some 6
  | .rpo => if f.holds .po then some 12 else some 6
  | .rpe => if f.holds .pe then some 12 else some 6
  | .rp => if f.holds .p then some 12 else some 6
  | .rm => if f.holds .m then some 12 else some 6
  | .rst _ => some 12
  | .pchl => some 6
  | .pushRp _ => some 12
  | .pushPsw => some 12
  | .popRp _ => some 10
  | .popPsw => some 10
  | .xthl => some 16
  | .sphl => some 6
  | .inPort _ => some 10
  | .outPort _ => some 10
  | .ei => some 4
  | .di => some 4
  | .nop => some 4
  | .hlt => some 5
  | .rim => some 4
  | .sim => some 4
  | .unassigned08 => none
  | .unassigned10 => none
  | .unassigned18 => none
  | .unassigned28 => none
  | .unassigned38 => none
  | .unassignedCB => none
  | .unassignedD9 => none
  | .unassignedDD => none
  | .unassignedED => none
  | .unassignedFD => none

/-- The addressing modes of the card (R56). -/
inductive AddressingMode where
  /-- Por Rexistro. -/
  | register
  /-- Ind. Parella Rex. -/
  | pairIndirect
  /-- Inmediato. -/
  | immediate
  /-- Directo. -/
  | direct
  /-- Implicito. -/
  | implied
  /-- Ind. a Rexistro SP. -/
  | spIndirect
  /-- Relativo a Rex. PC: said of the untaken case. -/
  | pcRelative
  /-- Directo a M. E/S. -/
  | directIo
deriving DecidableEq, Repr

/-- The addressing modes the card names for an instruction (R56); none where its cell is blank. -/
def modesOf : Instr → List AddressingMode
  | .movRR _ _ => [.register]
  | .movRM _ => [.pairIndirect]
  | .movMR _ => [.pairIndirect]
  | .mviR _ _ => [.immediate]
  | .mviM _ => [.immediate]
  | .lxi _ _ => [.immediate]
  | .lda _ => [.direct]
  | .sta _ => [.direct]
  | .lhld _ => [.direct]
  | .shld _ => [.direct]
  | .ldax _ => [.pairIndirect]
  | .stax _ => [.pairIndirect]
  | .xchg => [.register]
  | .addR _ => [.register]
  | .addM => [.pairIndirect]
  | .adi _ => [.immediate]
  | .adcR _ => [.register]
  | .adcM => [.pairIndirect]
  | .aci _ => [.immediate]
  | .subR _ => [.register]
  | .subM => [.pairIndirect]
  | .sui _ => [.immediate]
  | .sbbR _ => [.register]
  | .sbbM => [.pairIndirect]
  | .sbi _ => [.immediate]
  | .inrR _ => [.register]
  | .inrM => [.pairIndirect]
  | .dcrR _ => [.register]
  | .dcrM => [.pairIndirect]
  | .inx _ => [.register]
  | .dcx _ => [.register]
  | .dad _ => [.register]
  | .daa => [.implied]
  | .cmpR _ => [.register]
  | .cmpM => [.pairIndirect]
  | .cpi _ => [.immediate]
  | .anaR _ => [.register]
  | .anaM => [.pairIndirect]
  | .ani _ => [.immediate]
  | .xraR _ => [.register]
  | .xraM => [.pairIndirect]
  | .xri _ => [.immediate]
  | .oraR _ => [.register]
  | .oraM => [.pairIndirect]
  | .ori _ => [.immediate]
  | .cma => [.register]
  | .rlc => [.register]
  | .rrc => [.register]
  | .ral => [.register]
  | .rar => [.register]
  | .cmc => [.register]
  | .stc => [.register]
  | .jmp _ => [.direct]
  | .jnz _ => [.direct, .pcRelative]
  | .jz _ => [.direct, .pcRelative]
  | .jnc _ => [.direct, .pcRelative]
  | .jc _ => [.direct, .pcRelative]
  | .jpo _ => [.direct, .pcRelative]
  | .jpe _ => [.direct, .pcRelative]
  | .jp _ => [.direct, .pcRelative]
  | .jm _ => [.direct, .pcRelative]
  | .call _ => [.direct]
  | .cnz _ => [.direct, .pcRelative]
  | .cz _ => [.direct, .pcRelative]
  | .cnc _ => [.direct, .pcRelative]
  | .cc _ => [.direct, .pcRelative]
  | .cpo _ => [.direct, .pcRelative]
  | .cpe _ => [.direct, .pcRelative]
  | .cp _ => [.direct, .pcRelative]
  | .cm _ => [.direct, .pcRelative]
  | .ret => [.spIndirect]
  | .rnz => [.spIndirect, .pcRelative]
  | .rz => [.spIndirect, .pcRelative]
  | .rnc => [.spIndirect, .pcRelative]
  | .rc => [.spIndirect, .pcRelative]
  | .rpo => [.spIndirect, .pcRelative]
  | .rpe => [.spIndirect, .pcRelative]
  | .rp => [.spIndirect, .pcRelative]
  | .rm => [.spIndirect, .pcRelative]
  | .rst _ => [.direct]
  | .pchl => [.register]
  | .pushRp _ => [.register]
  | .pushPsw => [.register]
  | .popRp _ => [.register]
  | .popPsw => [.register]
  | .xthl => [.register]
  | .sphl => [.register]
  | .inPort _ => [.directIo]
  | .outPort _ => [.directIo]
  | .ei => []
  | .di => []
  | .nop => []
  | .hlt => []
  | .rim => []
  | .sim => []
  | .unassigned08 => []
  | .unassigned10 => []
  | .unassigned18 => []
  | .unassigned28 => []
  | .unassigned38 => []
  | .unassignedCB => []
  | .unassignedD9 => []
  | .unassignedDD => []
  | .unassignedED => []
  | .unassignedFD => []

/-- The spelling of a register operand (R78). -/
def regLetter : Reg → String
  | .b => "B"
  | .c => "C"
  | .d => "D"
  | .e => "E"
  | .h => "H"
  | .l => "L"
  | .a => "A"

/-- The spelling of a pair operand: its first register, or SP (R78). -/
def pairLetter : Pair → String
  | .bc => "B"
  | .de => "D"
  | .hl => "H"
  | .sp => "SP"

/-- One hexadecimal digit. -/
def hexDigit (n : Nat) : String :=
  ["0", "1", "2", "3", "4", "5", "6", "7", "8", "9", "A", "B", "C", "D", "E", "F"].getD n ""

/-- A byte as the card writes numbers: hexadecimal with a trailing h (R78). -/
def hexByte (v : Byte) : String := hexDigit (v.toNat / 16) ++ hexDigit (v.toNat % 16) ++ "h"

/-- A 16-bit number as the card writes numbers. -/
def hexWord (w : Word) : String :=
  hexDigit (w.toNat / 4096) ++ hexDigit (w.toNat / 256 % 16) ++ hexDigit (w.toNat / 16 % 16) ++
    hexDigit (w.toNat % 16) ++ "h"

/-- The assembler spelling of an instruction (R78); empty for an unassigned value, which has none. -/
def asmOf : Instr → String
  | .movRR dst src => "MOV " ++ regLetter dst ++ ", " ++ regLetter src
  | .movRM dst => "MOV " ++ regLetter dst ++ ", M"
  | .movMR src => "MOV M, " ++ regLetter src
  | .mviR dst v => "MVI " ++ regLetter dst ++ ", " ++ hexByte v
  | .mviM v => "MVI M, " ++ hexByte v
  | .lxi pair w => "LXI " ++ pairLetter pair ++ ", " ++ hexWord w
  | .lda dir => "LDA " ++ hexWord dir
  | .sta dir => "STA " ++ hexWord dir
  | .lhld dir => "LHLD " ++ hexWord dir
  | .shld dir => "SHLD " ++ hexWord dir
  | .ldax pair => "LDAX " ++ pairLetter pair
  | .stax pair => "STAX " ++ pairLetter pair
  | .xchg => "XCHG"
  | .addR r => "ADD " ++ regLetter r
  | .addM => "ADD M"
  | .adi v => "ADI " ++ hexByte v
  | .adcR r => "ADC " ++ regLetter r
  | .adcM => "ADC M"
  | .aci v => "ACI " ++ hexByte v
  | .subR r => "SUB " ++ regLetter r
  | .subM => "SUB M"
  | .sui v => "SUI " ++ hexByte v
  | .sbbR r => "SBB " ++ regLetter r
  | .sbbM => "SBB M"
  | .sbi v => "SBI " ++ hexByte v
  | .inrR r => "INR " ++ regLetter r
  | .inrM => "INR M"
  | .dcrR r => "DCR " ++ regLetter r
  | .dcrM => "DCR M"
  | .inx pair => "INX " ++ pairLetter pair
  | .dcx pair => "DCX " ++ pairLetter pair
  | .dad pair => "DAD " ++ pairLetter pair
  | .daa => "DAA"
  | .cmpR r => "CMP " ++ regLetter r
  | .cmpM => "CMP M"
  | .cpi v => "CPI " ++ hexByte v
  | .anaR r => "ANA " ++ regLetter r
  | .anaM => "ANA M"
  | .ani v => "ANI " ++ hexByte v
  | .xraR r => "XRA " ++ regLetter r
  | .xraM => "XRA M"
  | .xri v => "XRI " ++ hexByte v
  | .oraR r => "ORA " ++ regLetter r
  | .oraM => "ORA M"
  | .ori v => "ORI " ++ hexByte v
  | .cma => "CMA"
  | .rlc => "RLC"
  | .rrc => "RRC"
  | .ral => "RAL"
  | .rar => "RAR"
  | .cmc => "CMC"
  | .stc => "STC"
  | .jmp dir => "JMP " ++ hexWord dir
  | .jnz dir => "JNZ " ++ hexWord dir
  | .jz dir => "JZ " ++ hexWord dir
  | .jnc dir => "JNC " ++ hexWord dir
  | .jc dir => "JC " ++ hexWord dir
  | .jpo dir => "JPO " ++ hexWord dir
  | .jpe dir => "JPE " ++ hexWord dir
  | .jp dir => "JP " ++ hexWord dir
  | .jm dir => "JM " ++ hexWord dir
  | .call dir => "CALL " ++ hexWord dir
  | .cnz dir => "CNZ " ++ hexWord dir
  | .cz dir => "CZ " ++ hexWord dir
  | .cnc dir => "CNC " ++ hexWord dir
  | .cc dir => "CC " ++ hexWord dir
  | .cpo dir => "CPO " ++ hexWord dir
  | .cpe dir => "CPE " ++ hexWord dir
  | .cp dir => "CP " ++ hexWord dir
  | .cm dir => "CM " ++ hexWord dir
  | .ret => "RET"
  | .rnz => "RNZ"
  | .rz => "RZ"
  | .rnc => "RNC"
  | .rc => "RC"
  | .rpo => "RPO"
  | .rpe => "RPE"
  | .rp => "RP"
  | .rm => "RM"
  | .rst n => "RST " ++ hexDigit n.toNat
  | .pchl => "PCHL"
  | .pushRp pair => "PUSH " ++ pairLetter pair
  | .pushPsw => "PUSH PSW"
  | .popRp pair => "POP " ++ pairLetter pair
  | .popPsw => "POP PSW"
  | .xthl => "XTHL"
  | .sphl => "SPHL"
  | .inPort port => "IN " ++ hexByte port
  | .outPort port => "OUT " ++ hexByte port
  | .ei => "EI"
  | .di => "DI"
  | .nop => "NOP"
  | .hlt => "HLT"
  | .rim => "RIM"
  | .sim => "SIM"
  | .unassigned08 => ""
  | .unassigned10 => ""
  | .unassigned18 => ""
  | .unassigned28 => ""
  | .unassigned38 => ""
  | .unassignedCB => ""
  | .unassignedD9 => ""
  | .unassignedDD => ""
  | .unassignedED => ""
  | .unassignedFD => ""

end Sys2Proof.Machine
end

