-- ==== Sys2Proof/Safety.lean ====
section
/-! DEFINITION. The terms in which claims speak of safe runs: the data accesses the spec lists for each instruction
(20_memory.md R45), what an instruction leaves alone, and the invariant of the machine. -/

namespace Sys2Proof.Machine

/-- One data access of an instruction: a byte of memory, or a port (R45). -/
inductive Access where
  | read (addr : Word)
  | write (addr : Word)
  | portRead (number : Byte)
  | portWrite (number : Byte)
deriving DecidableEq, Repr

/-- The two writes of a push (R45). -/
def pushAccesses (s : State) : List Access := [.write (s.sp - 1), .write (s.sp - 2)]

/-- The two reads of a pop (R45). -/
def popAccesses (s : State) : List Access := [.read s.sp, .read (s.sp + 1)]

/-- The data accesses of an instruction in order, the table of R45; the fetch is not among them. -/
def dataAccesses (i : Instr) (s : State) : List Access :=
  match i with
  | .movRR _ _ => []
  | .movRM _ => [.read s.hl]
  | .movMR _ => [.write s.hl]
  | .mviR _ _ => []
  | .mviM _ => [.write s.hl]
  | .lxi _ _ => []
  | .lda dir => [.read dir]
  | .sta dir => [.write dir]
  | .lhld dir => [.read dir, .read (dir + 1)]
  | .shld dir => [.write dir, .write (dir + 1)]
  | .ldax pair => [.read (s.pair pair)]
  | .stax pair => [.write (s.pair pair)]
  | .xchg => []
  | .addR _ => []
  | .addM => [.read s.hl]
  | .adi _ => []
  | .adcR _ => []
  | .adcM => [.read s.hl]
  | .aci _ => []
  | .subR _ => []
  | .subM => [.read s.hl]
  | .sui _ => []
  | .sbbR _ => []
  | .sbbM => [.read s.hl]
  | .sbi _ => []
  | .inrR _ => []
  | .inrM => [.read s.hl, .write s.hl]
  | .dcrR _ => []
  | .dcrM => [.read s.hl, .write s.hl]
  | .inx _ => []
  | .dcx _ => []
  | .dad _ => []
  | .daa => []
  | .cmpR _ => []
  | .cmpM => [.read s.hl]
  | .cpi _ => []
  | .anaR _ => []
  | .anaM => [.read s.hl]
  | .ani _ => []
  | .xraR _ => []
  | .xraM => [.read s.hl]
  | .xri _ => []
  | .oraR _ => []
  | .oraM => [.read s.hl]
  | .ori _ => []
  | .cma => []
  | .rlc => []
  | .rrc => []
  | .ral => []
  | .rar => []
  | .cmc => []
  | .stc => []
  | .jmp _ => []
  | .jnz _ => []
  | .jz _ => []
  | .jnc _ => []
  | .jc _ => []
  | .jpo _ => []
  | .jpe _ => []
  | .jp _ => []
  | .jm _ => []
  | .call _ => pushAccesses s
  | .cnz _ => if s.flags.holds .nz then pushAccesses s else []
  | .cz _ => if s.flags.holds .z then pushAccesses s else []
  | .cnc _ => if s.flags.holds .nc then pushAccesses s else []
  | .cc _ => if s.flags.holds .c then pushAccesses s else []
  | .cpo _ => if s.flags.holds .po then pushAccesses s else []
  | .cpe _ => if s.flags.holds .pe then pushAccesses s else []
  | .cp _ => if s.flags.holds .p then pushAccesses s else []
  | .cm _ => if s.flags.holds .m then pushAccesses s else []
  | .ret => popAccesses s
  | .rnz => if s.flags.holds .nz then popAccesses s else []
  | .rz => if s.flags.holds .z then popAccesses s else []
  | .rnc => if s.flags.holds .nc then popAccesses s else []
  | .rc => if s.flags.holds .c then popAccesses s else []
  | .rpo => if s.flags.holds .po then popAccesses s else []
  | .rpe => if s.flags.holds .pe then popAccesses s else []
  | .rp => if s.flags.holds .p then popAccesses s else []
  | .rm => if s.flags.holds .m then popAccesses s else []
  | .rst _ => pushAccesses s
  | .pchl => []
  | .pushRp _ => pushAccesses s
  | .pushPsw => pushAccesses s
  | .popRp _ => popAccesses s
  | .popPsw => popAccesses s
  | .xthl => [.read s.sp, .read (s.sp + 1), .write (s.sp + 1), .write s.sp]
  | .sphl => []
  | .inPort port => [.portRead port]
  | .outPort port => [.portWrite port]
  | .ei => []
  | .di => []
  | .nop => []
  | .hlt => []
  | .rim => []
  | .sim => []
  | .unassigned08 => []
  | .unassigned10 => []
  | .unassigned18 => []
  | .unassigned28 => []
  | .unassigned38 => []
  | .unassignedCB => []
  | .unassignedD9 => []
  | .unassignedDD => []
  | .unassignedED => []
  | .unassignedFD => []

/-- Can every byte that the instruction reads be read: has something written it (R30)? -/
def readsWritten (i : Instr) (s : State) : Prop := ∀ a, .read a ∈ dataAccesses i s → (s.mem.read a).isSome

/-- Is the first byte of the instruction assigned (R75)? -/
def assigned : Instr → Bool
  | .movRR _ _ => true
  | .movRM _ => true
  | .movMR _ => true
  | .mviR _ _ => true
  | .mviM _ => true
  | .lxi _ _ => true
  | .lda _ => true
  | .sta _ => true
  | .lhld _ => true
  | .shld _ => true
  | .ldax _ => true
  | .stax _ => true
  | .xchg => true
  | .addR _ => true
  | .addM => true
  | .adi _ => true
  | .adcR _ => true
  | .adcM => true
  | .aci _ => true
  | .subR _ => true
  | .subM => true
  | .sui _ => true
  | .sbbR _ => true
  | .sbbM => true
  | .sbi _ => true
  | .inrR _ => true
  | .inrM => true
  | .dcrR _ => true
  | .dcrM => true
  | .inx _ => true
  | .dcx _ => true
  | .dad _ => true
  | .daa => true
  | .cmpR _ => true
  | .cmpM => true
  | .cpi _ => true
  | .anaR _ => true
  | .anaM => true
  | .ani _ => true
  | .xraR _ => true
  | .xraM => true
  | .xri _ => true
  | .oraR _ => true
  | .oraM => true
  | .ori _ => true
  | .cma => true
  | .rlc => true
  | .rrc => true
  | .ral => true
  | .rar => true
  | .cmc => true
  | .stc => true
  | .jmp _ => true
  | .jnz _ => true
  | .jz _ => true
  | .jnc _ => true
  | .jc _ => true
  | .jpo _ => true
  | .jpe _ => true
  | .jp _ => true
  | .jm _ => true
  | .call _ => true
  | .cnz _ => true
  | .cz _ => true
  | .cnc _ => true
  | .cc _ => true
  | .cpo _ => true
  | .cpe _ => true
  | .cp _ => true
  | .cm _ => true
  | .ret => true
  | .rnz => true
  | .rz => true
  | .rnc => true
  | .rc => true
  | .rpo => true
  | .rpe => true
  | .rp => true
  | .rm => true
  | .rst _ => true
  | .pchl => true
  | .pushRp _ => true
  | .pushPsw => true
  | .popRp _ => true
  | .popPsw => true
  | .xthl => true
  | .sphl => true
  | .inPort _ => true
  | .outPort _ => true
  | .ei => true
  | .di => true
  | .nop => true
  | .hlt => true
  | .rim => true
  | .sim => true
  | .unassigned08 => false
  | .unassigned10 => false
  | .unassigned18 => false
  | .unassigned28 => false
  | .unassigned38 => false
  | .unassignedCB => false
  | .unassignedD9 => false
  | .unassignedDD => false
  | .unassignedED => false
  | .unassignedFD => false

/-- The bytes of a list stand in memory from an address on, addresses wrapping at FFFFh (R43). -/
def bytesAt (s : State) : Word → List Byte → Prop
  | _, [] => True
  | a, v :: rest => s.mem.read a = some v ∧ bytesAt s (a + 1) rest

/-- The environment and the implementation are as before: lines, script, scripted port bytes, draws, events, parameters,
and whether the first instruction after a reset is still to come. -/
structure SameOutside (s t : State) : Prop where
  lines : t.lines = s.lines
  script : t.script = s.script
  portIn : t.portIn = s.portIn
  firstFetch : t.firstFetch = s.firstFetch
  draws : t.draws = s.draws
  events : t.events = s.events
  params : t.params = s.params

/-- The frame of an instruction: every general register but those listed is as before, every byte of memory but those
listed reads as before, and so are the environment and the implementation. What becomes of SP, PC, the flags and the
control state is said beside it. -/
structure Keeps (rs : List Reg) (addrs : List Word) (s t : State) : Prop where
  regs : ∀ r, r ∉ rs → t.reg r = s.reg r
  mem : ∀ a, a ∉ addrs → t.mem.read a = s.mem.read a
  outside : SameOutside s t

/-- SP and the control state are as before and PC is past an instruction of `len` bytes. -/
structure Sequential (len : Nat) (s t : State) : Prop where
  sp : t.sp = s.sp
  pc : t.pc = s.pc + BitVec.ofNat 16 len
  ctl : t.ctl = s.ctl

/-- The general registers a pair operand is made of (R11). -/
def pairRegs : Pair → List Reg
  | .bc => [.b, .c]
  | .de => [.d, .e]
  | .hl => [.h, .l]
  | .sp => []

/-- What the card says of one instruction: its bytes, its state count and its addressing modes. -/
structure Card (i : Instr) (bytes : List Byte) (states : Nat) (modes : List AddressingMode) : Prop where
  wellFormed : i.wellFormed = true
  encoding : encode i = bytes
  states : ∀ f, statesOf i f = some states
  modes : modesOf i = modes

/-- S, Z and P as R20 defines them for a result: bit 7, zero, and an even number of 1 bits. -/
structure SzpOf (f : Flags) (v : Byte) : Prop where
  s : f.s = true ↔ 128 ≤ v.toNat
  z : f.z = true ↔ v.toNat = 0
  p : f.p = true ↔ (List.range 8).countP (fun k => v.getLsbD k) % 2 = 0

/-- The flags of an 8-bit addition `a + b + cin` (R8, R20). -/
structure AddFlags (f : Flags) (a b cin : Nat) : Prop where
  cy : f.cy = true ↔ 256 ≤ a + b + cin
  ac : f.ac = true ↔ 16 ≤ a % 16 + b % 16 + cin

/-- AC after a subtraction `a - b - bin` (R8): the low-nibble borrow or its complement. -/
def subAcOf (mode : AcSub) (f : Flags) (a b bin : Nat) : Prop :=
  match mode with
  | .carry => f.ac = true ↔ ¬ a % 16 < b % 16 + bin
  | .borrow => f.ac = true ↔ a % 16 < b % 16 + bin

/-- The effect of an addition to A (R121 to R126): the sum modulo 256 in A, all five flags, nothing else. -/
structure AddsToAcc (s t : State) (v : Byte) (cin : Bool) (len : Nat) : Prop where
  acc : t.acc.toNat = (s.acc.toNat + v.toNat + cin.toNat) % 256
  szp : SzpOf t.flags t.acc
  carries : AddFlags t.flags s.acc.toNat v.toNat cin.toNat
  keeps : Keeps [.a] [] s t
  seq : Sequential len s t

/-- The flags of a subtraction `a - b - bin` with result `res` (R8): CY is the borrow. -/
structure SubFlags (mode : AcSub) (f : Flags) (a b bin : Nat) (res : Byte) : Prop where
  value : (res.toNat : Int) = ((a : Int) - b - bin) % 256
  szp : SzpOf f res
  cy : f.cy = true ↔ a < b + bin
  ac : subAcOf mode f a b bin

/-- The effect of a subtraction from A (R127 to R132). -/
structure SubtractsFromAcc (s t : State) (v : Byte) (bin : Bool) (len : Nat) : Prop where
  flags : SubFlags s.params.acSub t.flags s.acc.toNat v.toNat bin.toNat t.acc
  keeps : Keeps [.a] [] s t
  seq : Sequential len s t

/-- The effect of a comparison with A (R151 to R153): the flags of the difference, Z exactly for equal and CY exactly for
smaller, and A kept. -/
structure ComparesAcc (s t : State) (v : Byte) (len : Nat) : Prop where
  flags : ∃ res, SubFlags s.params.acSub t.flags s.acc.toNat v.toNat 0 res
  equal : t.flags.z = true ↔ s.acc = v
  below : t.flags.cy = true ↔ s.acc.toNat < v.toNat
  keeps : Keeps [] [] s t
  seq : Sequential len s t

/-- The flags of INR and DCR (R133 to R136): Z, S and P from the result, CY kept; AC is given. -/
structure CountFlags (f g : Flags) (res : Byte) (ac : Prop) : Prop where
  szp : SzpOf g res
  ac : g.ac = true ↔ ac
  cy : g.cy = f.cy

/-- AC after DCR (R135): set exactly when the low nibble was not 0 under AC_SUB = carry, the reverse under borrow. -/
def decAc (mode : AcSub) (v : Byte) : Prop :=
  match mode with
  | .carry => v.toNat % 16 ≠ 0
  | .borrow => v.toNat % 16 = 0

/-- The effect of a logical instruction (R160 to R169): bit `k` of A by `f`, S, Z and P from the result, CY 0, AC given. -/
structure LogicOnAcc (s t : State) (f : Bool → Bool → Bool) (v : Byte) (ac : Bool) (len : Nat) : Prop where
  acc : ∀ k, k < 8 → t.acc.getLsbD k = f (s.acc.getLsbD k) (v.getLsbD k)
  szp : SzpOf t.flags t.acc
  cy : t.flags.cy = false
  ac : t.flags.ac = ac
  keeps : Keeps [.a] [] s t
  seq : Sequential len s t

/-- LOGIC_AC for the XOR and OR forms (R160): 1 under `source`, 0 under `intel`. -/
def orAc (p : LogicAc) : Bool := decide (p = .source)

/-- The effect of a rotate on A and CY (R180): nothing else changes. -/
structure RotatesAcc (s t : State) (acc : Nat) (cy : Bool) : Prop where
  acc : t.acc.toNat = acc
  flags : t.flags = { s.flags with cy := cy }
  keeps : Keeps [.a] [] s t
  seq : Sequential 1 s t

/-- A word has been pushed: high byte at SP - 1, low byte at SP - 2, SP down by 2 (R194, R211). -/
structure Pushed (s t : State) (w : Word) : Prop where
  high : t.mem.read (s.sp - 1) = some (highByte w)
  low : t.mem.read (s.sp - 2) = some (lowByte w)
  sp : t.sp = s.sp - 2

/-- The two bytes a pop reads are written, low byte first (R194, R213). -/
def topOfStack (s : State) (lo hi : Byte) : Prop := s.mem.read s.sp = some lo ∧ s.mem.read (s.sp + 1) = some hi

/-- The five flags, as names. -/
inductive FlagName where
  | s | z | ac | p | cy
deriving DecidableEq, Repr

/-- The value of a flag. -/
def Flags.value (f : Flags) : FlagName → Bool
  | .s => f.s
  | .z => f.z
  | .ac => f.ac
  | .p => f.p
  | .cy => f.cy

/-- Which flags an instruction writes: the table of R22 and, for DAA, R150. -/
def flagsWritten (i : Instr) (daa : DaaFlags) : List FlagName :=
  match i with
  | .movRR _ _ => []
  | .movRM _ => []
  | .movMR _ => []
  | .mviR _ _ => []
  | .mviM _ => []
  | .lxi _ _ => []
  | .lda _ => []
  | .sta _ => []
  | .lhld _ => []
  | .shld _ => []
  | .ldax _ => []
  | .stax _ => []
  | .xchg => []
  | .addR _ => [.s, .z, .ac, .p, .cy]
  | .addM => [.s, .z, .ac, .p, .cy]
  | .adi _ => [.s, .z, .ac, .p, .cy]
  | .adcR _ => [.s, .z, .ac, .p, .cy]
  | .adcM => [.s, .z, .ac, .p, .cy]
  | .aci _ => [.s, .z, .ac, .p, .cy]
  | .subR _ => [.s, .z, .ac, .p, .cy]
  | .subM => [.s, .z, .ac, .p, .cy]
  | .sui _ => [.s, .z, .ac, .p, .cy]
  | .sbbR _ => [.s, .z, .ac, .p, .cy]
  | .sbbM => [.s, .z, .ac, .p, .cy]
  | .sbi _ => [.s, .z, .ac, .p, .cy]
  | .inrR _ => [.s, .z, .ac, .p]
  | .inrM => [.s, .z, .ac, .p]
  | .dcrR _ => [.s, .z, .ac, .p]
  | .dcrM => [.s, .z, .ac, .p]
  | .inx _ => []
  | .dcx _ => []
  | .dad _ => [.cy]
  | .daa => if daa = .intel then [.s, .z, .ac, .p, .cy] else []
  | .cmpR _ => [.s, .z, .ac, .p, .cy]
  | .cmpM => [.s, .z, .ac, .p, .cy]
  | .cpi _ => [.s, .z, .ac, .p, .cy]
  | .anaR _ => [.s, .z, .ac, .p, .cy]
  | .anaM => [.s, .z, .ac, .p, .cy]
  | .ani _ => [.s, .z, .ac, .p, .cy]
  | .xraR _ => [.s, .z, .ac, .p, .cy]
  | .xraM => [.s, .z, .ac, .p, .cy]
  | .xri _ => [.s, .z, .ac, .p, .cy]
  | .oraR _ => [.s, .z, .ac, .p, .cy]
  | .oraM => [.s, .z, .ac, .p, .cy]
  | .ori _ => [.s, .z, .ac, .p, .cy]
  | .cma => []
  | .rlc => [.cy]
  | .rrc => [.cy]
  | .ral => [.cy]
  | .rar => [.cy]
  | .cmc => [.cy]
  | .stc => [.cy]
  | .jmp _ => []
  | .jnz _ => []
  | .jz _ => []
  | .jnc _ => []
  | .jc _ => []
  | .jpo _ => []
  | .jpe _ => []
  | .jp _ => []
  | .jm _ => []
  | .call _ => []
  | .cnz _ => []
  | .cz _ => []
  | .cnc _ => []
  | .cc _ => []
  | .cpo _ => []
  | .cpe _ => []
  | .cp _ => []
  | .cm _ => []
  | .ret => []
  | .rnz => []
  | .rz => []
  | .rnc => []
  | .rc => []
  | .rpo => []
  | .rpe => []
  | .rp => []
  | .rm => []
  | .rst _ => []
  | .pchl => []
  | .pushRp _ => []
  | .pushPsw => []
  | .popRp _ => []
  | .popPsw => [.s, .z, .ac, .p, .cy]
  | .xthl => []
  | .sphl => []
  | .inPort _ => []
  | .outPort _ => []
  | .ei => []
  | .di => []
  | .nop => []
  | .hlt => []
  | .rim => []
  | .sim => []
  | .unassigned08 => []
  | .unassigned10 => []
  | .unassigned18 => []
  | .unassigned28 => []
  | .unassigned38 => []
  | .unassignedCB => []
  | .unassignedD9 => []
  | .unassignedDD => []
  | .unassignedED => []
  | .unassignedFD => []

/-- Which flags an instruction reads (R23). -/
def flagsRead : Instr → List FlagName
  | .movRR _ _ => []
  | .movRM _ => []
  | .movMR _ => []
  | .mviR _ _ => []
  | .mviM _ => []
  | .lxi _ _ => []
  | .lda _ => []
  | .sta _ => []
  | .lhld _ => []
  | .shld _ => []
  | .ldax _ => []
  | .stax _ => []
  | .xchg => []
  | .addR _ => []
  | .addM => []
  | .adi _ => []
  | .adcR _ => [.cy]
  | .adcM => [.cy]
  | .aci _ => [.cy]
  | .subR _ => []
  | .subM => []
  | .sui _ => []
  | .sbbR _ => [.cy]
  | .sbbM => [.cy]
  | .sbi _ => [.cy]
  | .inrR _ => []
  | .inrM => []
  | .dcrR _ => []
  | .dcrM => []
  | .inx _ => []
  | .dcx _ => []
  | .dad _ => []
  | .daa => [.ac, .cy]
  | .cmpR _ => []
  | .cmpM => []
  | .cpi _ => []
  | .anaR _ => []
  | .anaM => []
  | .ani _ => []
  | .xraR _ => []
  | .xraM => []
  | .xri _ => []
  | .oraR _ => []
  | .oraM => []
  | .ori _ => []
  | .cma => []
  | .rlc => []
  | .rrc => []
  | .ral => [.cy]
  | .rar => [.cy]
  | .cmc => [.cy]
  | .stc => []
  | .jmp _ => []
  | .jnz _ => [.z]
  | .jz _ => [.z]
  | .jnc _ => [.cy]
  | .jc _ => [.cy]
  | .jpo _ => [.p]
  | .jpe _ => [.p]
  | .jp _ => [.s]
  | .jm _ => [.s]
  | .call _ => []
  | .cnz _ => [.z]
  | .cz _ => [.z]
  | .cnc _ => [.cy]
  | .cc _ => [.cy]
  | .cpo _ => [.p]
  | .cpe _ => [.p]
  | .cp _ => [.s]
  | .cm _ => [.s]
  | .ret => []
  | .rnz => [.z]
  | .rz => [.z]
  | .rnc => [.cy]
  | .rc => [.cy]
  | .rpo => [.p]
  | .rpe => [.p]
  | .rp => [.s]
  | .rm => [.s]
  | .rst _ => []
  | .pchl => []
  | .pushRp _ => []
  | .pushPsw => [.s, .z, .ac, .p, .cy]
  | .popRp _ => []
  | .popPsw => []
  | .xthl => []
  | .sphl => []
  | .inPort _ => []
  | .outPort _ => []
  | .ei => []
  | .di => []
  | .nop => []
  | .hlt => []
  | .rim => []
  | .sim => []
  | .unassigned08 => []
  | .unassigned10 => []
  | .unassigned18 => []
  | .unassigned28 => []
  | .unassigned38 => []
  | .unassignedCB => []
  | .unassignedD9 => []
  | .unassignedDD => []
  | .unassignedED => []
  | .unassignedFD => []

/-- The flags with those listed taken from `f` and the others from `g`. -/
def Flags.merge (names : List FlagName) (f g : Flags) : Flags where
  s := if .s ∈ names then f.s else g.s
  z := if .z ∈ names then f.z else g.z
  ac := if .ac ∈ names then f.ac else g.ac
  p := if .p ∈ names then f.p else g.p
  cy := if .cy ∈ names then f.cy else g.cy

/-- Change the state of an answer that goes on. -/
def mapNext (f : State → State) : Result → Result
  | .next t => .next (f t)
  | .fault x => .fault x
  | .refused x => .refused x

/-- A request of a source stands and nothing withholds it: the tables of R241 and R242. -/
def requestStands (s : State) : IntSource → Prop
  | .trap => s.ctl.trapLatch = true ∧ s.lines.trap = true
  | .rst75 => s.ctl.ie = true ∧ s.ctl.eiPending = false ∧ s.ctl.m75 = false ∧ s.ctl.i75 = true
  | .rst65 => s.ctl.ie = true ∧ s.ctl.eiPending = false ∧ s.ctl.m65 = false ∧ s.lines.rst65 = true
  | .rst55 => s.ctl.ie = true ∧ s.ctl.eiPending = false ∧ s.ctl.m55 = false ∧ s.lines.rst55 = true
  | .intr => s.ctl.ie = true ∧ s.ctl.eiPending = false ∧ s.lines.intr = true

/-- The place of a source in the fixed order of R244, the highest priority first. -/
def priorityOf : IntSource → Nat
  | .trap => 0
  | .rst75 => 1
  | .rst65 => 2
  | .rst55 => 3
  | .intr => 4

/-- The invariant of the machine: memory keeps its canonical form; EI_PENDING is 1 only while IE is (R225, R226, R246);
a halted processor has no EI pending, for the HLT completed after the EI (R225, R228); TRAP_IE is 1 only while TRAP_SEEN
is, for the first RIM after a TRAP entry clears both (R26, R246, log 29); and while the first instruction after a reset is
still to come the processor is not halted (R281). -/
structure Inv (s : State) : Prop where
  mem : s.mem.wf
  pending : s.ctl.eiPending = true → s.ctl.ie = true
  halted : s.ctl.halted = true → s.ctl.eiPending = false
  trapIe : s.ctl.trapIe = true → s.ctl.trapSeen = true
  firstFetch : s.firstFetch = true → s.ctl.halted = false

end Sys2Proof.Machine
end

