-- ==== Sys2Proof/Certificates/Slice0/Obligations.lean ====
section
/-! DEFINITION. The statements about the model. A rule R<n> is a numbered rule of spec/. A statement that rests on a point
the spec marks as its own decision (D<n>) or as general knowledge, or on an entry of notes/assumptions, says so. -/

open Sys2Proof Sys2Proof.Machine

/-! ## Encoding -/

/-- Decoding the bytes of a well-formed instruction gives the instruction back and leaves the bytes after it, for every
operand value. The lengths are the spec's decision D2 and the condition codes its decision D4 (R62, R65); that an
unassigned first byte is an instruction term of its own, one byte long in the stream, is the model's choice (DESIGN
CHOICE, log 14). -/
def Obligations.DecodingTheEncodingGivesTheInstruction : Prop :=
  ∀ (i : Instr) (rest : List Byte), i.wellFormed = true → decode (encode i ++ rest) = .ok (i, rest)

/-- Whatever bytes decode to an instruction are that instruction's encoding followed by the rest: no bit is dropped, and
what the decoder answers is well-formed. That an unassigned first byte decodes to a term is the model's choice (DESIGN
CHOICE, log 14). -/
def Obligations.DecodedBytesAreTheEncoding : Prop :=
  ∀ (bytes rest : List Byte) (i : Instr), decode bytes = .ok (i, rest) →
    i.wellFormed = true ∧ encode i ++ rest = bytes

/-- R68 (which the spec derives): the first byte gives the length; R75: ten values have none. The three clauses on the
length are disjoint lists. That every value builds a term, the ten of R75 too, which the spec refuses at decode and the
model at exec, is the model's choice (DESIGN CHOICE, log 14). -/
def Obligations.FirstByteGivesTheLength : Prop :=
  ∀ b : Byte,
    (opcodeLength b =
      if b.toNat ∈ [0x01, 0x11, 0x21, 0x31, 0x22, 0x2A, 0x32, 0x3A, 0xC3, 0xC2, 0xCA, 0xD2, 0xDA, 0xE2, 0xEA, 0xF2,
        0xFA, 0xCD, 0xC4, 0xCC, 0xD4, 0xDC, 0xE4, 0xEC, 0xF4, 0xFC] then some 3
      else if b.toNat ∈ [0x06, 0x0E, 0x16, 0x1E, 0x26, 0x2E, 0x36, 0x3E, 0xC6, 0xCE, 0xD6, 0xDE, 0xE6, 0xEE, 0xF6,
        0xFE, 0xD3, 0xDB] then some 2
      else if b.toNat ∈ [0x08, 0x10, 0x18, 0x28, 0x38, 0xCB, 0xD9, 0xDD, 0xED, 0xFD] then none
      else some 1) ∧
    ∀ lo hi, (decodeBytes b lo hi).isSome

/-- Sanity: words written out from the spec's own encodings (vectors of 95_test_vectors.md) decode as it says. -/
def Obligations.SampleWordsDecode : Prop :=
  decode [0b01000111#8] = .ok (.movRR .b .a, []) ∧
  decode [0b00110001#8, 0x34#8, 0x12#8] = .ok (.lxi .sp 0x1234#16, []) ∧
  decode [0b10011101#8] = .ok (.sbbR .l, []) ∧
  decode [0b11101110#8, 0x81#8] = .ok (.xri 0x81#8, []) ∧
  decode [0b00011111#8] = .ok (.rar, []) ∧
  decode [0b11101010#8, 0x50#8, 0x20#8] = .ok (.jpe 0x2050#16, []) ∧
  decode [0b11011111#8] = .ok (.rst 3#3, []) ∧
  decode [0b11110101#8] = .ok (.pushPsw, []) ∧
  decode [0b11011011#8, 0x10#8] = .ok (.inPort 0x10#8, []) ∧
  decode [0b01110110#8] = .ok (.hlt, [])

/-! ## The step, reset and the whole machine -/

/-- When no reset is asserted, no interrupt is accepted and the processor is not halted, and the bytes at pc decode to an
instruction, the step is exec of that instruction on the sampled state, after which EI_PENDING is cleared unless the
instruction is EI (R225, R245). The sampled state differs from the state only in what the environment has changed; that
the sample stands at the start of the step is the model's choice (log 8). `firstFetch`, which the end of an instruction
clears, is the model's own field: it holds requests off until the first instruction after a reset is done (log 30). What a
step does when a byte of the instruction is unwritten is said by FetchStopsOnAnUnwrittenByte. -/
def Obligations.StepRunsTheDecodedInstruction : Prop :=
  ∀ (s : State) (bytes : List Byte) (i : Instr),
    s.resetAsserted = false → s.sample.accepted = none → s.sample.ctl.halted = false →
    decode bytes = .ok (i, []) → bytesAt s s.pc bytes →
    i.wellFormed = true ∧
    s.sample = { s with lines := s.sample.lines, script := s.script.tail, ctl := s.sample.ctl } ∧
    (∀ t, exec i s.sample = .next t →
      step s = .next { t with
        ctl := { t.ctl with eiPending := t.ctl.eiPending && decide (i = .ei) }
        firstFetch := false }) ∧
    (∀ f, exec i s.sample = .fault f → step s = .fault f) ∧
    (∀ r, exec i s.sample = .refused r → step s = .refused r)

/-- What R281 says reset leaves: PC, IE, the masks, the latches; and execution starts with a fetch at PC: whatever the
environment drives or is about to do, and whatever the parameters are, no request is accepted before it (how the model
holds that is log 30). The spec gives A to L, the flags and SP no value; the
model's zeros (DESIGN CHOICE, log 1) are not part of the statement. -/
def Obligations.ResetLeavesTheControlState : Prop :=
  let s := State.reset
  s.pc = 0x0000#16 ∧ s.ctl.ie = false ∧ s.ctl.m55 = true ∧ s.ctl.m65 = true ∧ s.ctl.m75 = true ∧ s.ctl.i75 = false ∧
  s.ctl.trapLatch = false ∧ s.ctl.sod = false ∧ s.ctl.trapIe = false ∧ s.ctl.trapSeen = false ∧
  s.ctl.eiPending = false ∧ s.ctl.halted = false ∧ (∀ a, s.mem.read a = none) ∧
  ∀ lines script params, { s with lines := lines, script := script, params := params }.sample.accepted = none

/-- The state after reset meets the invariant. -/
def Obligations.ResetMeetsTheInvariant : Prop := Inv State.reset

/-- Every step keeps the invariant: memory stays canonical (the model's form, log 2), EI_PENDING implies IE, a halted
processor has no EI pending, TRAP_IE implies TRAP_SEEN (log 29), and a processor that is still to execute its first
instruction after a reset is not halted (R281; log 30). -/
def Obligations.EveryStepKeepsTheInvariant : Prop := ∀ s t : State, Inv s → step s = .next t → Inv t

/-- No step changes the parameters of the implementation, takes back an output event, or un-draws a free value. Where
these stand, and that the newest event is the first, is the model's choice (log 3, 5, 13). -/
def Obligations.StepsKeepParametersAndHistory : Prop :=
  ∀ s t : State, step s = .next t → t.params = s.params ∧ s.events <:+ t.events ∧ s.draws ≤ t.draws

/-- R240 and R30: no instruction can fail. Every assigned instruction completes in exactly the states whose memory holds
every byte it reads (the table of R45); otherwise it stops on the first of those bytes that nothing has written, naming
it, which is how the model takes R30 (log 2). It is never refused. -/
def Obligations.InstructionsCompleteUnlessAReadIsUnwritten : Prop :=
  ∀ (i : Instr) (s : State), assigned i = true →
    (readsWritten i s → ∃ t, exec i s = .next t) ∧
    (∀ a before after, dataAccesses i s = before ++ .read a :: after → s.mem.read a = none →
      (∀ b, .read b ∈ before → (s.mem.read b).isSome) → exec i s = .fault (.unwrittenRead a))

/-- R45: whatever instruction executes, every byte of memory outside the writes the table lists for it reads as before. -/
def Obligations.InstructionsWriteOnlyTheListedBytes : Prop :=
  ∀ (i : Instr) (s t : State), exec i s = .next t → ∀ a, .write a ∉ dataAccesses i s → t.mem.read a = s.mem.read a

/-- R22 and R23 together: the flags an instruction does not read cannot influence anything it does, and those it does not
write it leaves alone. Two states that differ in flags only, and agree on the flags the instruction reads, go to states
that differ only in the flags it does not write. -/
def Obligations.UnreadFlagsHaveNoInfluence : Prop :=
  ∀ (i : Instr) (s : State) (g : Flags), (∀ n ∈ flagsRead i, g.value n = s.flags.value n) →
    exec i { s with flags := g } =
      mapNext (fun t => { t with flags := Flags.merge (flagsWritten i s.params.daaFlags) t.flags g }) (exec i s)

/-! ## Transfer -/

/-- R101 and R104: MOV r1, r2 and MVI r. -/
def Obligations.MovAndMviWriteOneRegister : Prop :=
  ∀ (s : State) (dst src : Reg) (v : Byte),
    (Card (.movRR dst src) [0x40#8 ||| dstBits dst ||| srcBits src] 4 [.register] ∧
      ∃ t, exec (.movRR dst src) s = .next t ∧ t.reg dst = s.reg src ∧ Keeps [dst] [] s t ∧ t.flags = s.flags ∧
        Sequential 1 s t) ∧
    (Card (.mviR dst v) [0x06#8 ||| dstBits dst, v] 7 [.immediate] ∧
      ∃ t, exec (.mviR dst v) s = .next t ∧ t.reg dst = v ∧ Keeps [dst] [] s t ∧ t.flags = s.flags ∧ Sequential 2 s t)

/-- R102, R107 and R111: MOV r, M, LDA and LDAX load the byte at their address, formed from the registers as they were. -/
def Obligations.LoadsReadTheByteAtTheirAddress : Prop :=
  ∀ (s : State) (v : Byte),
    (∀ dst, Card (.movRM dst) [0x46#8 ||| dstBits dst] 7 [.pairIndirect] ∧
      (s.mem.read (s.pair .hl) = some v →
        ∃ t, exec (.movRM dst) s = .next t ∧ t.reg dst = v ∧ Keeps [dst] [] s t ∧ t.flags = s.flags ∧
          Sequential 1 s t)) ∧
    (∀ dir, Card (.lda dir) [0x3A#8, lowByte dir, highByte dir] 13 [.direct] ∧
      (s.mem.read dir = some v →
        ∃ t, exec (.lda dir) s = .next t ∧ t.reg .a = v ∧ Keeps [.a] [] s t ∧ t.flags = s.flags ∧
          Sequential 3 s t)) ∧
    (∀ pair, pair = .bc ∨ pair = .de → Card (.ldax pair) [0x0A#8 ||| pairBits pair] 7 [.pairIndirect] ∧
      (s.mem.read (s.pair pair) = some v →
        ∃ t, exec (.ldax pair) s = .next t ∧ t.reg .a = v ∧ Keeps [.a] [] s t ∧ t.flags = s.flags ∧
          Sequential 1 s t))

/-- R103, R105, R108 and R112: MOV M, r, MVI M, STA and STAX store one byte at their address. -/
def Obligations.StoresWriteOneByteAtTheirAddress : Prop :=
  ∀ (s : State),
    (∀ src, Card (.movMR src) [0x70#8 ||| srcBits src] 7 [.pairIndirect] ∧
      ∃ t, exec (.movMR src) s = .next t ∧ t.mem.read (s.pair .hl) = some (s.reg src) ∧ Keeps [] [s.pair .hl] s t ∧
        t.flags = s.flags ∧ Sequential 1 s t) ∧
    (∀ v, Card (.mviM v) [0x36#8, v] 10 [.immediate] ∧
      ∃ t, exec (.mviM v) s = .next t ∧ t.mem.read (s.pair .hl) = some v ∧ Keeps [] [s.pair .hl] s t ∧
        t.flags = s.flags ∧ Sequential 2 s t) ∧
    (∀ dir, Card (.sta dir) [0x32#8, lowByte dir, highByte dir] 13 [.direct] ∧
      ∃ t, exec (.sta dir) s = .next t ∧ t.mem.read dir = some (s.reg .a) ∧ Keeps [] [dir] s t ∧
        t.flags = s.flags ∧ Sequential 3 s t) ∧
    (∀ pair, pair = .bc ∨ pair = .de → Card (.stax pair) [0x02#8 ||| pairBits pair] 7 [.pairIndirect] ∧
      ∃ t, exec (.stax pair) s = .next t ∧ t.mem.read (s.pair pair) = some (s.reg .a) ∧ Keeps [] [s.pair pair] s t ∧
        t.flags = s.flags ∧ Sequential 1 s t)

/-- LXI (R106) loads BC, DE, HL or SP, the low byte of the operand standing first. Register by register: the high byte
goes to B, D or H and the low byte to C, E or L; that B and D are the high halves is the spec's decision D28 (R11). -/
def Obligations.LxiLoadsThePair : Prop :=
  ∀ (s : State) (pair : Pair) (w : Word),
    Card (.lxi pair w) [0x01#8 ||| pairBits pair, lowByte w, highByte w] 10 [.immediate] ∧
    ∃ t, exec (.lxi pair w) s = .next t ∧ t.pair pair = w ∧
      (pair = .bc → t.reg .b = highByte w ∧ t.reg .c = lowByte w) ∧
      (pair = .de → t.reg .d = highByte w ∧ t.reg .e = lowByte w) ∧
      (pair = .hl → t.reg .h = highByte w ∧ t.reg .l = lowByte w) ∧
      (pair = .sp → t.sp = w) ∧ Keeps (pairRegs pair) [] s t ∧
      (pair ≠ .sp → t.sp = s.sp) ∧ t.flags = s.flags ∧ t.pc = s.pc + 3 ∧ t.ctl = s.ctl

/-- R109 and R110: LHLD reads L from dir and H from dir + 1, SHLD writes them there, addresses modulo 2^16. -/
def Obligations.LhldAndShldMoveHlLowByteFirst : Prop :=
  ∀ (s : State) (dir : Word),
    (Card (.lhld dir) [0x2A#8, lowByte dir, highByte dir] 16 [.direct] ∧
      ∀ lo hi, s.mem.read dir = some lo → s.mem.read (dir + 1) = some hi →
        ∃ t, exec (.lhld dir) s = .next t ∧ t.reg .l = lo ∧ t.reg .h = hi ∧ Keeps [.h, .l] [] s t ∧
          t.flags = s.flags ∧ Sequential 3 s t) ∧
    (Card (.shld dir) [0x22#8, lowByte dir, highByte dir] 16 [.direct] ∧
      ∃ t, exec (.shld dir) s = .next t ∧ t.mem.read dir = some (s.reg .l) ∧
        t.mem.read (dir + 1) = some (s.reg .h) ∧ Keeps [] [dir, dir + 1] s t ∧ t.flags = s.flags ∧ Sequential 3 s t)

/-- R113: XCHG exchanges H with D and L with E, and nothing else; two in a row restore the state but for PC. -/
def Obligations.XchgExchangesHlWithDe : Prop :=
  ∀ s : State, Card .xchg [0xEB#8] 4 [.register] ∧
    ∃ t, exec .xchg s = .next t ∧ t.reg .h = s.reg .d ∧ t.reg .l = s.reg .e ∧ t.reg .d = s.reg .h ∧
      t.reg .e = s.reg .l ∧ Keeps [.h, .l, .d, .e] [] s t ∧ t.flags = s.flags ∧ Sequential 1 s t ∧
      exec .xchg t = .next { s with pc := s.pc + 2 }

/-! ## Arithmetic -/

/-- ADD, ADI, ADC and ACI (R121 to R126): the exact sum modulo 256 and all five flags; ADC and ACI add the carry as it was
before the instruction. The flags' definitions are the spec's decision D6 (R8, R20). -/
def Obligations.AdditionsWriteTheSumAndFlags : Prop :=
  ∀ (s : State) (r : Reg) (v : Byte),
    (Card (.addR r) [0x80#8 ||| srcBits r] 4 [.register] ∧
      ∃ t, exec (.addR r) s = .next t ∧ AddsToAcc s t (s.reg r) false 1) ∧
    (Card .addM [0x86#8] 7 [.pairIndirect] ∧
      (s.mem.read (s.pair .hl) = some v → ∃ t, exec .addM s = .next t ∧ AddsToAcc s t v false 1)) ∧
    (Card (.adi v) [0xC6#8, v] 7 [.immediate] ∧ ∃ t, exec (.adi v) s = .next t ∧ AddsToAcc s t v false 2) ∧
    (Card (.adcR r) [0x88#8 ||| srcBits r] 4 [.register] ∧
      ∃ t, exec (.adcR r) s = .next t ∧ AddsToAcc s t (s.reg r) s.flags.cy 1) ∧
    (Card .adcM [0x8E#8] 7 [.pairIndirect] ∧
      (s.mem.read (s.pair .hl) = some v → ∃ t, exec .adcM s = .next t ∧ AddsToAcc s t v s.flags.cy 1)) ∧
    (Card (.aci v) [0xCE#8, v] 7 [.immediate] ∧ ∃ t, exec (.aci v) s = .next t ∧ AddsToAcc s t v s.flags.cy 2)

/-- SUB, SUI, SBB and SBI (R127 to R132): the difference modulo 256, CY the borrow, AC under both values of AC_SUB; SBB and
SBI subtract the borrow as it was before the instruction. The flags' definitions are the spec's decisions D6 and D7. -/
def Obligations.SubtractionsWriteTheDifferenceAndFlags : Prop :=
  ∀ (s : State) (r : Reg) (v : Byte),
    (Card (.subR r) [0x90#8 ||| srcBits r] 4 [.register] ∧
      ∃ t, exec (.subR r) s = .next t ∧ SubtractsFromAcc s t (s.reg r) false 1) ∧
    (Card .subM [0x96#8] 7 [.pairIndirect] ∧
      (s.mem.read (s.pair .hl) = some v → ∃ t, exec .subM s = .next t ∧ SubtractsFromAcc s t v false 1)) ∧
    (Card (.sui v) [0xD6#8, v] 7 [.immediate] ∧ ∃ t, exec (.sui v) s = .next t ∧ SubtractsFromAcc s t v false 2) ∧
    (Card (.sbbR r) [0x98#8 ||| srcBits r] 4 [.register] ∧
      ∃ t, exec (.sbbR r) s = .next t ∧ SubtractsFromAcc s t (s.reg r) s.flags.cy 1) ∧
    (Card .sbbM [0x9E#8] 7 [.pairIndirect] ∧
      (s.mem.read (s.pair .hl) = some v → ∃ t, exec .sbbM s = .next t ∧ SubtractsFromAcc s t v s.flags.cy 1)) ∧
    (Card (.sbi v) [0xDE#8, v] 7 [.immediate] ∧ ∃ t, exec (.sbi v) s = .next t ∧ SubtractsFromAcc s t v s.flags.cy 2)

/-- CMP r, CMP M, CPI (R151 to R153): the flags of A minus the operand; Z exactly when equal, CY exactly when A is
smaller; A kept (decisions D6, D7). -/
def Obligations.CompareSetsFlagsAndKeepsA : Prop :=
  ∀ (s : State) (r : Reg) (v : Byte),
    (Card (.cmpR r) [0xB8#8 ||| srcBits r] 4 [.register] ∧
      ∃ t, exec (.cmpR r) s = .next t ∧ ComparesAcc s t (s.reg r) 1) ∧
    (Card .cmpM [0xBE#8] 7 [.pairIndirect] ∧
      (s.mem.read (s.pair .hl) = some v → ∃ t, exec .cmpM s = .next t ∧ ComparesAcc s t v 1)) ∧
    (Card (.cpi v) [0xFE#8, v] 7 [.immediate] ∧ ∃ t, exec (.cpi v) s = .next t ∧ ComparesAcc s t v 2)

/-- INR and DCR on a register and on the byte at (HL) (R133 to R136): one more or one less modulo 256, Z, S, P and AC
written, CY kept. The flags' definitions are the spec's decisions D6 and D7. -/
def Obligations.InrAndDcrCountAByte : Prop :=
  ∀ (s : State) (r : Reg) (v : Byte),
    (Card (.inrR r) [0x04#8 ||| dstBits r] 4 [.register] ∧
      ∃ t, exec (.inrR r) s = .next t ∧ (t.reg r).toNat = ((s.reg r).toNat + 1) % 256 ∧
        CountFlags s.flags t.flags (t.reg r) ((s.reg r).toNat % 16 = 15) ∧ Keeps [r] [] s t ∧ Sequential 1 s t) ∧
    (Card (.dcrR r) [0x05#8 ||| dstBits r] 4 [.register] ∧
      ∃ t, exec (.dcrR r) s = .next t ∧ (t.reg r).toNat = ((s.reg r).toNat + 255) % 256 ∧
        CountFlags s.flags t.flags (t.reg r) (decAc s.params.acSub (s.reg r)) ∧ Keeps [r] [] s t ∧ Sequential 1 s t) ∧
    (Card .inrM [0x34#8] 10 [.pairIndirect] ∧
      (s.mem.read (s.pair .hl) = some v →
        ∃ t w, exec .inrM s = .next t ∧ t.mem.read (s.pair .hl) = some w ∧ w.toNat = (v.toNat + 1) % 256 ∧
          CountFlags s.flags t.flags w (v.toNat % 16 = 15) ∧ Keeps [] [s.pair .hl] s t ∧ Sequential 1 s t)) ∧
    (Card .dcrM [0x35#8] 10 [.pairIndirect] ∧
      (s.mem.read (s.pair .hl) = some v →
        ∃ t w, exec .dcrM s = .next t ∧ t.mem.read (s.pair .hl) = some w ∧ w.toNat = (v.toNat + 255) % 256 ∧
          CountFlags s.flags t.flags w (decAc s.params.acSub v) ∧ Keeps [] [s.pair .hl] s t ∧ Sequential 1 s t))

/-- R137 and R138: INX and DCX count a pair or SP modulo 2^16 and write no flag. -/
def Obligations.InxAndDcxCountAPair : Prop :=
  ∀ (s : State) (pair : Pair),
    (Card (.inx pair) [0x03#8 ||| pairBits pair] 6 [.register] ∧
      ∃ t, exec (.inx pair) s = .next t ∧ (t.pair pair).toNat = ((s.pair pair).toNat + 1) % 65536 ∧
        Keeps (pairRegs pair) [] s t ∧ (pair ≠ .sp → t.sp = s.sp) ∧ t.flags = s.flags ∧ t.pc = s.pc + 1 ∧
        t.ctl = s.ctl) ∧
    (Card (.dcx pair) [0x0B#8 ||| pairBits pair] 6 [.register] ∧
      ∃ t, exec (.dcx pair) s = .next t ∧ (t.pair pair).toNat = ((s.pair pair).toNat + 65535) % 65536 ∧
        Keeps (pairRegs pair) [] s t ∧ (pair ≠ .sp → t.sp = s.sp) ∧ t.flags = s.flags ∧ t.pc = s.pc + 1 ∧
        t.ctl = s.ctl)

/-- R139: DAD adds a pair or SP to HL modulo 2^16 and writes CY only, the carry out of bit 15. -/
def Obligations.DadAddsToHl : Prop :=
  ∀ (s : State) (pair : Pair),
    Card (.dad pair) [0x09#8 ||| pairBits pair] 10 [.register] ∧
    ∃ t, exec (.dad pair) s = .next t ∧
      (t.pair .hl).toNat = ((s.pair .hl).toNat + (s.pair pair).toNat) % 65536 ∧
      t.flags = { s.flags with cy := decide (65536 ≤ (s.pair .hl).toNat + (s.pair pair).toNat) } ∧
      Keeps [.h, .l] [] s t ∧ Sequential 1 s t

/-- DAA (R150): the adjustment is the spec's decision D9. Under DAA_FLAGS = source no flag is written; under intel all
five are. -/
def Obligations.DaaAdjustsA : Prop :=
  ∀ s : State, Card .daa [0x27#8] 4 [.implied] ∧
    ∃ t, exec .daa s = .next t ∧ Keeps [.a] [] s t ∧ Sequential 1 s t ∧
      ∃ lo hi : Nat,
        lo = (if 9 < s.acc.toNat % 16 ∨ s.flags.ac = true then 6 else 0) ∧
        hi = (if 9 < (s.acc.toNat + lo) / 16 ∨ s.flags.cy = true then 96 else 0) ∧
        t.acc.toNat = (s.acc.toNat + lo + hi) % 256 ∧
        (s.params.daaFlags = .source → t.flags = s.flags) ∧
        (s.params.daaFlags = .intel → SzpOf t.flags t.acc ∧ (t.flags.cy = true ↔ hi ≠ 0 ∨ s.flags.cy = true) ∧
          (t.flags.ac = true ↔ lo ≠ 0 ∧ 16 ≤ s.acc.toNat % 16 + lo))

/-- What the adjustment is for (R150, "DAA corrects after an addition"): ADC r of two packed decimal numbers below 100,
then DAA, leaves the packed decimal sum modulo 100, and with DAA_FLAGS = intel the decimal carry in CY. -/
def Obligations.AdcThenDaaAddsDecimally : Prop :=
  ∀ (s : State) (r : Reg) (x y : Nat), x < 100 → y < 100 →
    s.acc.toNat = x / 10 * 16 + x % 10 → (s.reg r).toNat = y / 10 * 16 + y % 10 →
    ∃ t u, exec (.adcR r) s = .next t ∧ exec .daa t = .next u ∧
      u.acc.toNat = (x + y + s.flags.cy.toNat) % 100 / 10 * 16 + (x + y + s.flags.cy.toNat) % 10 ∧
      (s.params.daaFlags = .intel → (u.flags.cy = true ↔ 100 ≤ x + y + s.flags.cy.toNat))

/-- Carry chains (R154, which the spec derives): ADD on the low bytes, then ADC on the high bytes, is a 16-bit addition
with its carry in CY. A is loaded between the two by MOV, which writes no flag. -/
def Obligations.AddThenAdcIsA16BitAddition : Prop :=
  ∀ s : State, ∃ t1 t2 t3 t4 t5 t6,
    exec (.movRR .a .l) s = .next t1 ∧ exec (.addR .e) t1 = .next t2 ∧ exec (.movRR .l .a) t2 = .next t3 ∧
    exec (.movRR .a .h) t3 = .next t4 ∧ exec (.adcR .d) t4 = .next t5 ∧ exec (.movRR .h .a) t5 = .next t6 ∧
    (t6.pair .hl).toNat = ((s.pair .hl).toNat + (s.pair .de).toNat) % 65536 ∧
    (t6.flags.cy = true ↔ 65536 ≤ (s.pair .hl).toNat + (s.pair .de).toNat)

/-! ## Logical -/

/-- The nine logical instructions (R161 to R169): bit by bit, CY 0, AC by LOGIC_AC (R160). S, Z and P are the spec's
decision D6. -/
def Obligations.LogicalInstructionsCombineBits : Prop :=
  ∀ (s : State) (r : Reg) (v : Byte),
    (Card (.anaR r) [0xA0#8 ||| srcBits r] 4 [.register] ∧
      ∃ t, exec (.anaR r) s = .next t ∧ LogicOnAcc s t and (s.reg r) true 1) ∧
    (Card .anaM [0xA6#8] 7 [.pairIndirect] ∧
      (s.mem.read (s.pair .hl) = some v → ∃ t, exec .anaM s = .next t ∧ LogicOnAcc s t and v true 1)) ∧
    (Card (.ani v) [0xE6#8, v] 7 [.immediate] ∧ ∃ t, exec (.ani v) s = .next t ∧ LogicOnAcc s t and v true 2) ∧
    (Card (.xraR r) [0xA8#8 ||| srcBits r] 4 [.register] ∧
      ∃ t, exec (.xraR r) s = .next t ∧ LogicOnAcc s t xor (s.reg r) (orAc s.params.logicAc) 1) ∧
    (Card .xraM [0xAE#8] 7 [.pairIndirect] ∧
      (s.mem.read (s.pair .hl) = some v →
        ∃ t, exec .xraM s = .next t ∧ LogicOnAcc s t xor v (orAc s.params.logicAc) 1)) ∧
    (Card (.xri v) [0xEE#8, v] 7 [.immediate] ∧
      ∃ t, exec (.xri v) s = .next t ∧ LogicOnAcc s t xor v (orAc s.params.logicAc) 2) ∧
    (Card (.oraR r) [0xB0#8 ||| srcBits r] 4 [.register] ∧
      ∃ t, exec (.oraR r) s = .next t ∧ LogicOnAcc s t or (s.reg r) (orAc s.params.logicAc) 1) ∧
    (Card .oraM [0xB6#8] 7 [.pairIndirect] ∧
      (s.mem.read (s.pair .hl) = some v →
        ∃ t, exec .oraM s = .next t ∧ LogicOnAcc s t or v (orAc s.params.logicAc) 1)) ∧
    (Card (.ori v) [0xF6#8, v] 7 [.immediate] ∧
      ∃ t, exec (.ori v) s = .next t ∧ LogicOnAcc s t or v (orAc s.params.logicAc) 2)

/-- R170: CMA inverts each bit of A and writes no flag; two in a row restore A. -/
def Obligations.CmaInvertsA : Prop :=
  ∀ s : State, Card .cma [0x2F#8] 4 [.register] ∧
    ∃ t, exec .cma s = .next t ∧ (∀ k, k < 8 → t.acc.getLsbD k = !s.acc.getLsbD k) ∧ Keeps [.a] [] s t ∧
      t.flags = s.flags ∧ Sequential 1 s t ∧ exec .cma t = .next { s with pc := s.pc + 2 }

/-! ## Rotate and flag -/

/-- RLC, RRC, RAL, RAR (R181 to R184): one place left or right, with what enters and what leaves. Which bit goes where is
the spec's decision D10. -/
def Obligations.RotatesMoveEveryBitOnePlace : Prop :=
  ∀ s : State,
    (Card .rlc [0x07#8] 4 [.register] ∧ ∃ t, exec .rlc s = .next t ∧
      RotatesAcc s t (s.acc.toNat * 2 % 256 + s.acc.toNat / 128) (decide (128 ≤ s.acc.toNat))) ∧
    (Card .rrc [0x0F#8] 4 [.register] ∧ ∃ t, exec .rrc s = .next t ∧
      RotatesAcc s t (s.acc.toNat / 2 + s.acc.toNat % 2 * 128) (decide (s.acc.toNat % 2 = 1))) ∧
    (Card .ral [0x17#8] 4 [.register] ∧ ∃ t, exec .ral s = .next t ∧
      RotatesAcc s t (s.acc.toNat * 2 % 256 + s.flags.cy.toNat) (decide (128 ≤ s.acc.toNat))) ∧
    (Card .rar [0x1F#8] 4 [.register] ∧ ∃ t, exec .rar s = .next t ∧
      RotatesAcc s t (s.acc.toNat / 2 + s.flags.cy.toNat * 128) (decide (s.acc.toNat % 2 = 1)))

/-- R185 and R186: CMC inverts CY, STC sets it, and nothing else changes. -/
def Obligations.CmcAndStcWriteCarryOnly : Prop :=
  ∀ s : State,
    (Card .cmc [0x3F#8] 4 [.register] ∧
      ∃ t, exec .cmc s = .next t ∧ t.flags = { s.flags with cy := !s.flags.cy } ∧ Keeps [] [] s t ∧ Sequential 1 s t) ∧
    (Card .stc [0x37#8] 4 [.register] ∧
      ∃ t, exec .stc s = .next t ∧ t.flags = { s.flags with cy := true } ∧ Keeps [] [] s t ∧ Sequential 1 s t)

/-- The laws of the rotates (R181 to R184): RAR undoes RAL exactly, RAL undoes RAR, RRC undoes RLC on A, and RLC undoes
RRC on A (decision D10). -/
def Obligations.RotatesUndoEachOther : Prop :=
  ∀ s : State, ∃ t u,
    exec .ral s = .next t ∧ exec .rar t = .next { s with pc := s.pc + 2 } ∧
    exec .rar s = .next u ∧ exec .ral u = .next { s with pc := s.pc + 2 } ∧
    (∃ v w, exec .rlc s = .next v ∧ exec .rrc v = .next w ∧ w.acc = s.acc) ∧
    (∃ v w, exec .rrc s = .next v ∧ exec .rlc v = .next w ∧ w.acc = s.acc)

/-! ## Branch -/

/-- R191 and R199: JMP and PCHL set PC and change nothing else; PCHL reads no memory. -/
def Obligations.JmpAndPchlSetPc : Prop :=
  ∀ (s : State) (dir : Word),
    (Card (.jmp dir) [0xC3#8, lowByte dir, highByte dir] 10 [.direct] ∧ exec (.jmp dir) s = .next { s with pc := dir }) ∧
    (Card .pchl [0xE9#8] 6 [.register] ∧ exec .pchl s = .next { s with pc := s.reg .h ++ s.reg .l })

/-- The eight Jccc (R192), each with its byte and the flag it tests (the codes are the spec's decision D4): PC goes to
dir when the condition holds, past the three bytes when not, and nothing else changes. -/
def Obligations.ConditionalJumpsTestOneFlag : Prop :=
  ∀ (s : State) (dir : Word),
    ∀ x ∈ [(Instr.jnz dir, 0xC2#8, !s.flags.z), (.jz dir, 0xCA#8, s.flags.z), (.jnc dir, 0xD2#8, !s.flags.cy),
        (.jc dir, 0xDA#8, s.flags.cy), (.jpo dir, 0xE2#8, !s.flags.p), (.jpe dir, 0xEA#8, s.flags.p),
        (.jp dir, 0xF2#8, !s.flags.s), (.jm dir, 0xFA#8, s.flags.s)],
      encode x.1 = [x.2.1, lowByte dir, highByte dir] ∧
      exec x.1 s = .next { s with pc := if x.2.2 then dir else s.pc + 3 } ∧
      statesOf x.1 s.flags = some (if x.2.2 then 10 else 7)

/-- CALL (R193) and the eight Cccc (R195): the address of the next instruction is pushed and PC is dir, for Cccc when its
condition holds; when it does not, only PC changes. What is pushed and where is the spec's decision D12 (R16, R194), the
condition codes its decision D4. -/
def Obligations.CallsPushTheReturnAddress : Prop :=
  ∀ (s : State) (dir : Word),
    (Card (.call dir) [0xCD#8, lowByte dir, highByte dir] 18 [.direct] ∧
      ∃ t, exec (.call dir) s = .next t ∧ Pushed s t (s.pc + 3) ∧ t.pc = dir ∧ Keeps [] [s.sp - 1, s.sp - 2] s t ∧
        t.flags = s.flags ∧ t.ctl = s.ctl) ∧
    ∀ x ∈ [(Instr.cnz dir, 0xC4#8, !s.flags.z), (.cz dir, 0xCC#8, s.flags.z), (.cnc dir, 0xD4#8, !s.flags.cy),
        (.cc dir, 0xDC#8, s.flags.cy), (.cpo dir, 0xE4#8, !s.flags.p), (.cpe dir, 0xEC#8, s.flags.p),
        (.cp dir, 0xF4#8, !s.flags.s), (.cm dir, 0xFC#8, s.flags.s)],
      encode x.1 = [x.2.1, lowByte dir, highByte dir] ∧
      (x.2.2 = false → exec x.1 s = .next { s with pc := s.pc + 3 }) ∧
      (x.2.2 = true → ∃ t, exec x.1 s = .next t ∧ Pushed s t (s.pc + 3) ∧ t.pc = dir ∧
        Keeps [] [s.sp - 1, s.sp - 2] s t ∧ t.flags = s.flags ∧ t.ctl = s.ctl) ∧
      statesOf x.1 s.flags = some (if x.2.2 then 18 else 9)

/-- RET (R196) and the eight Rccc (R197): PC is popped, low byte first, for Rccc when its condition holds; when it does
not, only PC changes and the stack is not read. RET is the return from an interrupt too and leaves IE alone (R248). The
layout is the spec's decision D12 (R194), the condition codes its decision D4. -/
def Obligations.ReturnsPopPc : Prop :=
  ∀ (s : State) (lo hi : Byte),
    (Card .ret [0xC9#8] 10 [.spIndirect] ∧
      (topOfStack s lo hi → exec .ret s = .next { s with pc := hi ++ lo, sp := s.sp + 2 })) ∧
    ∀ x ∈ [(Instr.rnz, 0xC0#8, !s.flags.z), (.rz, 0xC8#8, s.flags.z), (.rnc, 0xD0#8, !s.flags.cy),
        (.rc, 0xD8#8, s.flags.cy), (.rpo, 0xE0#8, !s.flags.p), (.rpe, 0xE8#8, s.flags.p), (.rp, 0xF0#8, !s.flags.s),
        (.rm, 0xF8#8, s.flags.s)],
      encode x.1 = [x.2.1] ∧
      (x.2.2 = false → exec x.1 s = .next { s with pc := s.pc + 1 }) ∧
      (x.2.2 = true → topOfStack s lo hi → exec x.1 s = .next { s with pc := hi ++ lo, sp := s.sp + 2 }) ∧
      statesOf x.1 s.flags = some (if x.2.2 then 12 else 6)

/-- RST n (R198): a one-byte call to n x 8. That it pushes is the spec's decision D11. -/
def Obligations.RstCallsItsVector : Prop :=
  ∀ (s : State) (n : BitVec 3), Card (.rst n) [BitVec.ofNat 8 (0xC7 + n.toNat * 8)] 12 [.direct] ∧
    ∃ t, exec (.rst n) s = .next t ∧ Pushed s t (s.pc + 1) ∧ t.pc.toNat = n.toNat * 8 ∧
      Keeps [] [s.sp - 1, s.sp - 2] s t ∧ t.flags = s.flags ∧ t.ctl = s.ctl

/-- A call and the return that ends the routine (R193, R196, decision D12): in any state whose SP is what the call left
and whose two stack bytes are unchanged, RET goes to the instruction after the CALL with SP as before it. -/
def Obligations.RetReturnsToTheCaller : Prop :=
  ∀ (s t u : State) (dir : Word), exec (.call dir) s = .next t → u.sp = t.sp →
    u.mem.read (s.sp - 1) = t.mem.read (s.sp - 1) → u.mem.read (s.sp - 2) = t.mem.read (s.sp - 2) →
    exec .ret u = .next { u with pc := s.pc + 3, sp := s.sp }

/-! ## Stack -/

/-- R211: PUSH rp stores the pair below SP, high byte at SP - 1, low byte at SP - 2. -/
def Obligations.PushStoresThePair : Prop :=
  ∀ (s : State) (pair : Pair), pair ≠ .sp →
    Card (.pushRp pair) [0xC5#8 ||| pairBits pair] 12 [.register] ∧
    ∃ t, exec (.pushRp pair) s = .next t ∧ Pushed s t (s.pair pair) ∧ t.pc = s.pc + 1 ∧
      Keeps [] [s.sp - 1, s.sp - 2] s t ∧ t.flags = s.flags ∧ t.ctl = s.ctl

/-- PUSH PSW and POP PSW (R212, R214): A in the high byte, the flags at bits 7, 6, 4, 2 and 0 of the low byte. The layout
of RF is the spec's decision D5. The spare bits that PUSH PSW stores are a free value (log 5), drawn afresh; POP PSW
ignores them and loads all five flags. -/
def Obligations.PswMovesAAndFlags : Prop :=
  ∀ (s : State) (v w : Byte),
    (Card .pushPsw [0xF5#8] 12 [.register] ∧
      ∃ t rf, exec .pushPsw s = .next t ∧ t.mem.read (s.sp - 1) = some s.acc ∧ t.mem.read (s.sp - 2) = some rf ∧
        rf.getLsbD 7 = s.flags.s ∧ rf.getLsbD 6 = s.flags.z ∧ rf.getLsbD 4 = s.flags.ac ∧ rf.getLsbD 2 = s.flags.p ∧
        rf.getLsbD 0 = s.flags.cy ∧ t.sp = s.sp - 2 ∧ t.pc = s.pc + 1 ∧
        Keeps [] [s.sp - 1, s.sp - 2] { s with draws := s.draws + 1 } t ∧ t.flags = s.flags ∧ t.ctl = s.ctl) ∧
    (Card .popPsw [0xF1#8] 10 [.register] ∧
      (topOfStack s v w → ∃ t, exec .popPsw s = .next t ∧ t.acc = w ∧ t.flags.s = v.getLsbD 7 ∧
        t.flags.z = v.getLsbD 6 ∧ t.flags.ac = v.getLsbD 4 ∧ t.flags.p = v.getLsbD 2 ∧ t.flags.cy = v.getLsbD 0 ∧
        t.sp = s.sp + 2 ∧ t.pc = s.pc + 1 ∧ Keeps [.a] [] s t ∧ t.ctl = s.ctl))

/-- R213: POP rp loads the pair from SP and SP + 1 and raises SP by 2; memory is not changed. -/
def Obligations.PopLoadsThePair : Prop :=
  ∀ (s : State) (pair : Pair) (lo hi : Byte), pair ≠ .sp →
    Card (.popRp pair) [0xC1#8 ||| pairBits pair] 10 [.register] ∧
    (topOfStack s lo hi → ∃ t, exec (.popRp pair) s = .next t ∧ t.pair pair = hi ++ lo ∧ t.sp = s.sp + 2 ∧
      t.pc = s.pc + 1 ∧ Keeps (pairRegs pair) [] s t ∧ t.flags = s.flags ∧ t.ctl = s.ctl)

/-- R215 and R216: XTHL exchanges L and H with the two bytes at SP, which stays, and two XTHL restore everything a
program can read but PC; SPHL loads SP from HL. -/
def Obligations.XthlExchangesAndSphlLoads : Prop :=
  ∀ (s : State) (lo hi : Byte),
    (Card .xthl [0xE3#8] 16 [.register] ∧
      (topOfStack s lo hi → ∃ t, exec .xthl s = .next t ∧ t.reg .l = lo ∧ t.reg .h = hi ∧
        topOfStack t (s.reg .l) (s.reg .h) ∧ Keeps [.h, .l] [s.sp, s.sp + 1] s t ∧ t.flags = s.flags ∧
        Sequential 1 s t ∧ ∃ u, exec .xthl t = .next u ∧ Keeps [] [] s u ∧ u.flags = s.flags ∧ Sequential 2 s u)) ∧
    (Card .sphl [0xF9#8] 6 [.register] ∧ exec .sphl s = .next { s with sp := s.reg .h ++ s.reg .l, pc := s.pc + 1 })

/-- PUSH then POP (vectors S8 and S9): POP of another pair copies the pair, and PUSH PSW then POP PSW restores A, all
five flags and SP, whatever the spare bits are (decision D5, log 5). -/
def Obligations.PushThenPopRestores : Prop :=
  ∀ s : State,
    (∀ p q : Pair, p ≠ .sp → q ≠ .sp → ∃ t u, exec (.pushRp p) s = .next t ∧ exec (.popRp q) t = .next u ∧
      u.pair q = s.pair p ∧ u.sp = s.sp ∧ Keeps (pairRegs q) [s.sp - 1, s.sp - 2] s u) ∧
    (∃ t u, exec .pushPsw s = .next t ∧ exec .popPsw t = .next u ∧ u.acc = s.acc ∧ u.flags = s.flags ∧ u.sp = s.sp)

/-! ## Input and output -/

/-- IN (R220): A takes the byte the environment presents, the next scripted one, or else a free value that is drawn
afresh and may be anything (log 4); no flag and no memory byte changes. -/
def Obligations.InLoadsWhatTheEnvironmentPresents : Prop :=
  ∀ (s : State) (port : Byte), Card (.inPort port) [0xDB#8, port] 10 [.directIo] ∧
    (∀ v rest, s.portIn = v :: rest → ∃ t, exec (.inPort port) s = .next t ∧ t.acc = v ∧
      Keeps [.a] [] { s with portIn := rest } t ∧ t.flags = s.flags ∧ Sequential 2 s t) ∧
    (s.portIn = [] → ∃ t, exec (.inPort port) s = .next t ∧ t.acc = Config.portDraw s.draws port ∧
      Keeps [.a] [] { s with draws := s.draws + 1 } t ∧ t.flags = s.flags ∧ Sequential 2 s t)

/-- OUT (R221) is an output event with the port and A, after all earlier ones; A, flags and memory are unchanged. That
the events stand in a list of State, the newest first, is the model's choice (DESIGN CHOICE, log 13). -/
def Obligations.OutPresentsA : Prop :=
  ∀ (s : State) (port : Byte), Card (.outPort port) [0xD3#8, port] 10 [.directIo] ∧
    ∃ t, exec (.outPort port) s = .next t ∧
      Keeps [] [] { s with events := .port port s.acc :: s.events } t ∧ t.flags = s.flags ∧ Sequential 2 s t

/-! ## Processor control -/

/-- EI and DI (R225, R226): IE, and EI_PENDING by EI_DELAY; every other field of the control state is kept. Both are kept
under INTERRUPT_MODEL = none too, where no rule reads them (log 9); the delay is the spec's decision D20. -/
def Obligations.EiAndDiWriteTheEnable : Prop :=
  ∀ s : State,
    (Card .ei [0xFB#8] 4 [] ∧ exec .ei s = .next { s with
      pc := s.pc + 1, ctl := { s.ctl with ie := true, eiPending := decide (s.params.eiDelay = .one) } }) ∧
    (Card .di [0xF3#8] 4 [] ∧ exec .di s = .next { s with
      pc := s.pc + 1, ctl := { s.ctl with ie := false, eiPending := false } })

/-- R227: NOP changes PC and nothing else. -/
def Obligations.NopOnlyAdvancesPc : Prop :=
  ∀ s : State, Card .nop [0x00#8] 4 [] ∧ exec .nop s = .next { s with pc := s.pc + 1 }

/-- HLT (R228): PC is past it and HALTED is set. From a halted state under INTERRUPT_MODEL = none no step follows; under
`i8085` with nothing to accept the processor waits unchanged. What ends a halt is the spec's decision D21 (log 10). -/
def Obligations.HltHaltsTheProcessor : Prop :=
  ∀ s : State, Card .hlt [0x76#8] 5 [] ∧
    exec .hlt s = .next { s with pc := s.pc + 1, ctl := { s.ctl with halted := true } } ∧
    (s.ctl.halted = true → s.resetAsserted = false → s.sample.accepted = none →
      (s.params.interruptModel = .none → step s = .fault .halted) ∧
      (s.params.interruptModel = .i8085 → step s = .next s.sample))

/-- RIM (R230; the layout is the spec's decision D19): under `i8085` A takes SID, I7.5, I6.5, I5.5, IE and the masks, IE
being TRAP_IE while TRAP_SEEN is set. A RIM that finds TRAP_SEEN set clears it (R230) and TRAP_IE (the table of R26; that
no other RIM clears TRAP_IE is DEDUCED, log 29). Under `none` A takes a free value (log 6). -/
def Obligations.RimReadsTheInterruptStatus : Prop :=
  ∀ s : State, Card .rim [0x20#8] 4 [] ∧
    (s.params.interruptModel = .i8085 → ∃ t, exec .rim s = .next t ∧
      t.acc.getLsbD 7 = s.lines.sid ∧ t.acc.getLsbD 6 = s.ctl.i75 ∧ t.acc.getLsbD 5 = s.lines.rst65 ∧
      t.acc.getLsbD 4 = s.lines.rst55 ∧ t.acc.getLsbD 3 = (if s.ctl.trapSeen then s.ctl.trapIe else s.ctl.ie) ∧
      t.acc.getLsbD 2 = s.ctl.m75 ∧ t.acc.getLsbD 1 = s.ctl.m65 ∧ t.acc.getLsbD 0 = s.ctl.m55 ∧
      t.ctl = { s.ctl with trapSeen := false, trapIe := !s.ctl.trapSeen && s.ctl.trapIe } ∧ Keeps [.a] [] s t ∧
      t.flags = s.flags ∧ t.sp = s.sp ∧ t.pc = s.pc + 1) ∧
    (s.params.interruptModel = .none → ∃ t, exec .rim s = .next t ∧ t.acc = Config.rimDraw s.draws ∧
      Keeps [.a] [] { s with draws := s.draws + 1 } t ∧ t.flags = s.flags ∧ Sequential 1 s t)

/-- SIM (R231; the layout is the spec's decision D19): the masks from bits 2, 1, 0 when bit 3 is set, the RST 7.5 latch
cleared when bit 4 is set, SOD from bit 7 with an output event when bit 6 is set; nothing else. That SIM writes them under
INTERRUPT_MODEL = none too is the model's reading (DEDUCED, log 9); that the output events stand in a list, the newest
first, is its choice (DESIGN CHOICE, log 13). -/
def Obligations.SimProgramsMasksAndSerialOutput : Prop :=
  ∀ s : State, Card .sim [0x30#8] 4 [] ∧
    ∃ t, exec .sim s = .next t ∧
      t.ctl = { s.ctl with
        m75 := if s.acc.getLsbD 3 then s.acc.getLsbD 2 else s.ctl.m75
        m65 := if s.acc.getLsbD 3 then s.acc.getLsbD 1 else s.ctl.m65
        m55 := if s.acc.getLsbD 3 then s.acc.getLsbD 0 else s.ctl.m55
        i75 := !s.acc.getLsbD 4 && s.ctl.i75
        sod := if s.acc.getLsbD 6 then s.acc.getLsbD 7 else s.ctl.sod } ∧
      Keeps [] [] { s with
        events := if s.acc.getLsbD 6 then .sod (s.acc.getLsbD 7) :: s.events else s.events } t ∧
      t.flags = s.flags ∧ t.sp = s.sp ∧ t.pc = s.pc + 1

/-- R75: each of the ten unassigned first-byte values is refused by name, whatever the state, and has no length. That the
model refuses is the spec's decision D13; that the byte decodes to a term, which exec refuses, is the model's choice
(DESIGN CHOICE, log 14). -/
def Obligations.UnassignedOpcodesAreRefused : Prop :=
  ∀ s : State, ∀ x ∈ [(Instr.unassigned08, 0x08#8), (.unassigned10, 0x10#8), (.unassigned18, 0x18#8),
      (.unassigned28, 0x28#8), (.unassigned38, 0x38#8), (.unassignedCB, 0xCB#8), (.unassignedD9, 0xD9#8),
      (.unassignedDD, 0xDD#8), (.unassignedED, 0xED#8), (.unassignedFD, 0xFD#8)],
    decode [x.2] = .ok (x.1, []) ∧ opcodeLength x.2 = none ∧ exec x.1 s = .refused (.unassignedOpcode x.2)

/-! ## Interrupts (the spec's decision D18; R241 to R252 are general knowledge, and so are these statements) -/

/-- Sampling (R243): the lines take their scripted levels, a rising edge sets the latch of RST 7.5 or TRAP and nothing
clears one; a TRAP line that went from low to high has risen (log 25). When the script is empty the lines hold their
level and nothing rises, so nothing changes at all; the script is the model's form (DESIGN CHOICE, log 7). -/
def Obligations.SamplingLatchesRisingEdges : Prop :=
  ∀ s : State,
    (s.script = [] → s.sample = s) ∧
    (∀ e rest, s.script = e :: rest →
      s.sample = { s with
        lines := e.lines
        script := rest
        ctl := { s.ctl with
          i75 := s.ctl.i75 || e.rise75
          trapLatch := s.ctl.trapLatch || (e.riseTrap || decide (s.lines.trap = false ∧ e.lines.trap = true)) } })

/-- Acceptance (R242 to R245, R250): under `i8085`, at the end of an instruction, the source accepted is the one of highest
priority whose request stands; before the first instruction after a reset (R281, R245, log 30) and under `none` no request
is accepted (R253). -/
def Obligations.HighestStandingRequestIsAccepted : Prop :=
  ∀ (s : State) (src : IntSource),
    s.accepted = some src ↔
      s.params.interruptModel = .i8085 ∧ s.firstFetch = false ∧ requestStands s src ∧
        ∀ other, priorityOf other < priorityOf src → ¬ requestStands s other

/-- The vectored entry (R246, R251): the address of the next instruction is pushed, IE, EI_PENDING and HALTED are cleared,
PC is the entry address; TRAP saves IE, RST 7.5 clears its latch; the masks and everything else stay. -/
def Obligations.VectoredEntryPushesAndDisables : Prop :=
  ∀ (s u : State) (src : IntSource) (target : Word), s.resetAsserted = false → s.sample = u →
    u.accepted = some src →
    (src, target) ∈ [(IntSource.trap, 0x0024#16), (.rst75, 0x003C#16), (.rst65, 0x0034#16), (.rst55, 0x002C#16)] →
    ∃ t, step s = .next t ∧ Pushed u t u.pc ∧ t.pc = target ∧ Keeps [] [u.sp - 1, u.sp - 2] u t ∧ t.flags = u.flags ∧
      t.ctl = { u.ctl with
        ie := false
        eiPending := false
        halted := false
        i75 := u.ctl.i75 && decide (src ≠ .rst75)
        trapLatch := u.ctl.trapLatch && decide (src ≠ .trap)
        trapSeen := u.ctl.trapSeen || decide (src = .trap)
        trapIe := if src = .trap then u.ctl.ie else u.ctl.trapIe }

/-- The INTR acknowledge (R247, log 11): the instruction whose bytes the device supplies is executed with the interrupt
acknowledged, and every use of pc + len is the address of the next instruction. The next state or the fault of that
instruction is the step's; a supplied EI enables again and starts its delay (R225, decision D20); a supplied unassigned
byte is refused as a fetched one is (R75); a supplied RST n pushes the address of the next instruction. -/
def Obligations.IntrExecutesTheSuppliedInstruction : Prop :=
  ∀ (s u : State), s.resetAsserted = false → s.sample = u → u.accepted = some .intr →
    (∀ i rest v, decode [u.lines.ack0, u.lines.ack1, u.lines.ack2] = .ok (i, rest) →
      v = { u with
        pc := u.pc - BitVec.ofNat 16 (encode i).length
        ctl := { u.ctl with ie := false, eiPending := false, halted := false } } →
      (∀ t, i ≠ .ei → exec i v = .next t → step s = .next t) ∧
      (∀ f, exec i v = .fault f → step s = .fault f)) ∧
    (u.lines.ack0 = 0xFB#8 → step s = .next { u with
      ctl := { u.ctl with ie := true, eiPending := decide (u.params.eiDelay = .one), halted := false } }) ∧
    (opcodeLength u.lines.ack0 = none → step s = .refused (.unassignedOpcode u.lines.ack0)) ∧
    (∀ n : BitVec 3, u.lines.ack0 = BitVec.ofNat 8 (0xC7 + n.toNat * 8) →
      ∃ t, step s = .next t ∧ Pushed u t u.pc ∧ t.pc.toNat = n.toNat * 8 ∧ Keeps [] [u.sp - 1, u.sp - 2] u t ∧
        t.flags = u.flags ∧ t.ctl = { u.ctl with ie := false, eiPending := false, halted := false })

/-- The delay of EI (R225, R245, R291; decision D20): right after a step that executes EI under EI_DELAY = 1 no source but
TRAP is accepted, and an EI never opens a window before the next instruction has completed. -/
def Obligations.EiHoldsMaskableInterruptsForOneInstruction : Prop :=
  ∀ (s t : State), s.resetAsserted = false → s.sample.accepted = none → s.sample.ctl.halted = false →
    s.params.eiDelay = .one → s.mem.read s.pc = some 0xFB#8 → step s = .next t →
    t.ctl.ie = true ∧ (t.sample.accepted = none ∨ t.sample.accepted = some .trap)

/-- TRAP and RIM (R250): after a TRAP entry the first RIM returns in bit 3 the IE that the entry cleared, the second the
live IE. -/
def Obligations.FirstRimAfterTrapReadsTheOldEnable : Prop :=
  ∀ (s t u v : State), s.resetAsserted = false → s.sample.accepted = some .trap → step s = .next t →
    exec .rim t = .next u → exec .rim u = .next v →
    u.acc.getLsbD 3 = s.ctl.ie ∧ v.acc.getLsbD 3 = false

/-- IE is raised by nothing but an EI fetched at pc (R225, R242): an INTR device cannot supply it while IE is 0. -/
def Obligations.OnlyEiEnablesInterrupts : Prop :=
  ∀ s t : State, step s = .next t → s.ctl.ie = false → t.ctl.ie = true →
    s.mem.read s.pc = some 0xFB#8 ∧ s.sample.accepted = none

/-- The reset event (R280, R281): it overrides everything, an interrupt request and a halt among them, leaves PC and the
control state as R281 says, pushes nothing and leaves memory alone (that it falls between two instructions is log 12). And
execution starts by fetching the byte at 0000h: at the next step no request is accepted, whatever the environment does,
and the instruction whose bytes stand at 0000h is executed unless reset is asserted again (log 30). -/
def Obligations.ResetEventRestartsTheProcessor : Prop :=
  ∀ (s : State) (e : EnvEvent) (rest : List EnvEvent), s.script = e :: rest → e.reset = true →
    ∃ t, step s = .next t ∧ t.pc = 0x0000#16 ∧ t.mem = s.mem ∧ t.events = s.events ∧ t.params = s.params ∧
      t.script = rest ∧ t.lines = e.lines ∧ t.portIn = s.portIn ∧
      t.ctl = { ie := false, m55 := true, m65 := true, m75 := true, i75 := false, sod := false, trapLatch := false,
                trapIe := false, trapSeen := false, eiPending := false, halted := false } ∧
      t.sample.accepted = none ∧
      (∀ bytes i u, t.resetAsserted = false → decode bytes = .ok (i, []) → bytesAt t 0x0000#16 bytes →
        exec i t.sample = .next u → step t = .next { u with
          ctl := { u.ctl with eiPending := u.ctl.eiPending && decide (i = .ei) }
          firstFetch := false })

/-! ## An instruction that is not all in memory -/

/-- The fetch reads every byte of the instruction before it executes (R48; DEDUCED, log 22), and a byte that nothing has
written has no value (R30), on which the model stops (DESIGN CHOICE, log 2): when the bytes at pc begin an instruction and
the next byte of it is unwritten, the step is the fault that names its address. With `before` empty it is the first byte. -/
def Obligations.FetchStopsOnAnUnwrittenByte : Prop :=
  ∀ (s : State) (i : Instr) (before after : List Byte) (v : Byte),
    s.resetAsserted = false → s.sample.accepted = none → s.sample.ctl.halted = false →
    i.wellFormed = true → encode i = before ++ v :: after → bytesAt s s.pc before →
    s.mem.read (s.pc + BitVec.ofNat 16 before.length) = none →
    step s = .fault (.unwrittenRead (s.pc + BitVec.ofNat 16 before.length))
end

