-- ==== Sys2Proof/Laws/State.lean ====
section
/-! SUPPORT. For every update of the state and every field, what the field holds after the update: true by rfl. -/

namespace Sys2Proof.Machine

variable (s : State)

/-! ## State.setReg -/

@[simp] theorem State.setReg_regs (r : Reg) (v : Byte) : (s.setReg r v).regs = s.regs.set r v := rfl
@[simp] theorem State.setReg_flags (r : Reg) (v : Byte) : (s.setReg r v).flags = s.flags := rfl
@[simp] theorem State.setReg_sp (r : Reg) (v : Byte) : (s.setReg r v).sp = s.sp := rfl
@[simp] theorem State.setReg_pc (r : Reg) (v : Byte) : (s.setReg r v).pc = s.pc := rfl
@[simp] theorem State.setReg_ctl (r : Reg) (v : Byte) : (s.setReg r v).ctl = s.ctl := rfl
@[simp] theorem State.setReg_mem (r : Reg) (v : Byte) : (s.setReg r v).mem = s.mem := rfl
@[simp] theorem State.setReg_lines (r : Reg) (v : Byte) : (s.setReg r v).lines = s.lines := rfl
@[simp] theorem State.setReg_script (r : Reg) (v : Byte) : (s.setReg r v).script = s.script := rfl
@[simp] theorem State.setReg_portIn (r : Reg) (v : Byte) : (s.setReg r v).portIn = s.portIn := rfl
@[simp] theorem State.setReg_firstFetch (r : Reg) (v : Byte) : (s.setReg r v).firstFetch = s.firstFetch := rfl
@[simp] theorem State.setReg_draws (r : Reg) (v : Byte) : (s.setReg r v).draws = s.draws := rfl
@[simp] theorem State.setReg_events (r : Reg) (v : Byte) : (s.setReg r v).events = s.events := rfl
@[simp] theorem State.setReg_params (r : Reg) (v : Byte) : (s.setReg r v).params = s.params := rfl

/-! ## State.setAcc -/

@[simp] theorem State.setAcc_regs (v : Byte) : (s.setAcc v).regs = s.regs.set .a v := rfl
@[simp] theorem State.setAcc_flags (v : Byte) : (s.setAcc v).flags = s.flags := rfl
@[simp] theorem State.setAcc_sp (v : Byte) : (s.setAcc v).sp = s.sp := rfl
@[simp] theorem State.setAcc_pc (v : Byte) : (s.setAcc v).pc = s.pc := rfl
@[simp] theorem State.setAcc_ctl (v : Byte) : (s.setAcc v).ctl = s.ctl := rfl
@[simp] theorem State.setAcc_mem (v : Byte) : (s.setAcc v).mem = s.mem := rfl
@[simp] theorem State.setAcc_lines (v : Byte) : (s.setAcc v).lines = s.lines := rfl
@[simp] theorem State.setAcc_script (v : Byte) : (s.setAcc v).script = s.script := rfl
@[simp] theorem State.setAcc_portIn (v : Byte) : (s.setAcc v).portIn = s.portIn := rfl
@[simp] theorem State.setAcc_firstFetch (v : Byte) : (s.setAcc v).firstFetch = s.firstFetch := rfl
@[simp] theorem State.setAcc_draws (v : Byte) : (s.setAcc v).draws = s.draws := rfl
@[simp] theorem State.setAcc_events (v : Byte) : (s.setAcc v).events = s.events := rfl
@[simp] theorem State.setAcc_params (v : Byte) : (s.setAcc v).params = s.params := rfl

/-! ## State.setFlags -/

@[simp] theorem State.setFlags_regs (f : Flags) : (s.setFlags f).regs = s.regs := rfl
@[simp] theorem State.setFlags_flags (f : Flags) : (s.setFlags f).flags = f := rfl
@[simp] theorem State.setFlags_sp (f : Flags) : (s.setFlags f).sp = s.sp := rfl
@[simp] theorem State.setFlags_pc (f : Flags) : (s.setFlags f).pc = s.pc := rfl
@[simp] theorem State.setFlags_ctl (f : Flags) : (s.setFlags f).ctl = s.ctl := rfl
@[simp] theorem State.setFlags_mem (f : Flags) : (s.setFlags f).mem = s.mem := rfl
@[simp] theorem State.setFlags_lines (f : Flags) : (s.setFlags f).lines = s.lines := rfl
@[simp] theorem State.setFlags_script (f : Flags) : (s.setFlags f).script = s.script := rfl
@[simp] theorem State.setFlags_portIn (f : Flags) : (s.setFlags f).portIn = s.portIn := rfl
@[simp] theorem State.setFlags_firstFetch (f : Flags) : (s.setFlags f).firstFetch = s.firstFetch := rfl
@[simp] theorem State.setFlags_draws (f : Flags) : (s.setFlags f).draws = s.draws := rfl
@[simp] theorem State.setFlags_events (f : Flags) : (s.setFlags f).events = s.events := rfl
@[simp] theorem State.setFlags_params (f : Flags) : (s.setFlags f).params = s.params := rfl

/-! ## State.setCy -/

@[simp] theorem State.setCy_regs (c : Bool) : (s.setCy c).regs = s.regs := rfl
@[simp] theorem State.setCy_flags (c : Bool) : (s.setCy c).flags = { s.flags with cy := c } := rfl
@[simp] theorem State.setCy_sp (c : Bool) : (s.setCy c).sp = s.sp := rfl
@[simp] theorem State.setCy_pc (c : Bool) : (s.setCy c).pc = s.pc := rfl
@[simp] theorem State.setCy_ctl (c : Bool) : (s.setCy c).ctl = s.ctl := rfl
@[simp] theorem State.setCy_mem (c : Bool) : (s.setCy c).mem = s.mem := rfl
@[simp] theorem State.setCy_lines (c : Bool) : (s.setCy c).lines = s.lines := rfl
@[simp] theorem State.setCy_script (c : Bool) : (s.setCy c).script = s.script := rfl
@[simp] theorem State.setCy_portIn (c : Bool) : (s.setCy c).portIn = s.portIn := rfl
@[simp] theorem State.setCy_firstFetch (c : Bool) : (s.setCy c).firstFetch = s.firstFetch := rfl
@[simp] theorem State.setCy_draws (c : Bool) : (s.setCy c).draws = s.draws := rfl
@[simp] theorem State.setCy_events (c : Bool) : (s.setCy c).events = s.events := rfl
@[simp] theorem State.setCy_params (c : Bool) : (s.setCy c).params = s.params := rfl

/-! ## State.setSp -/

@[simp] theorem State.setSp_regs (w : Word) : (s.setSp w).regs = s.regs := rfl
@[simp] theorem State.setSp_flags (w : Word) : (s.setSp w).flags = s.flags := rfl
@[simp] theorem State.setSp_sp (w : Word) : (s.setSp w).sp = w := rfl
@[simp] theorem State.setSp_pc (w : Word) : (s.setSp w).pc = s.pc := rfl
@[simp] theorem State.setSp_ctl (w : Word) : (s.setSp w).ctl = s.ctl := rfl
@[simp] theorem State.setSp_mem (w : Word) : (s.setSp w).mem = s.mem := rfl
@[simp] theorem State.setSp_lines (w : Word) : (s.setSp w).lines = s.lines := rfl
@[simp] theorem State.setSp_script (w : Word) : (s.setSp w).script = s.script := rfl
@[simp] theorem State.setSp_portIn (w : Word) : (s.setSp w).portIn = s.portIn := rfl
@[simp] theorem State.setSp_firstFetch (w : Word) : (s.setSp w).firstFetch = s.firstFetch := rfl
@[simp] theorem State.setSp_draws (w : Word) : (s.setSp w).draws = s.draws := rfl
@[simp] theorem State.setSp_events (w : Word) : (s.setSp w).events = s.events := rfl
@[simp] theorem State.setSp_params (w : Word) : (s.setSp w).params = s.params := rfl

/-! ## State.jump -/

@[simp] theorem State.jump_regs (w : Word) : (s.jump w).regs = s.regs := rfl
@[simp] theorem State.jump_flags (w : Word) : (s.jump w).flags = s.flags := rfl
@[simp] theorem State.jump_sp (w : Word) : (s.jump w).sp = s.sp := rfl
@[simp] theorem State.jump_pc (w : Word) : (s.jump w).pc = w := rfl
@[simp] theorem State.jump_ctl (w : Word) : (s.jump w).ctl = s.ctl := rfl
@[simp] theorem State.jump_mem (w : Word) : (s.jump w).mem = s.mem := rfl
@[simp] theorem State.jump_lines (w : Word) : (s.jump w).lines = s.lines := rfl
@[simp] theorem State.jump_script (w : Word) : (s.jump w).script = s.script := rfl
@[simp] theorem State.jump_portIn (w : Word) : (s.jump w).portIn = s.portIn := rfl
@[simp] theorem State.jump_firstFetch (w : Word) : (s.jump w).firstFetch = s.firstFetch := rfl
@[simp] theorem State.jump_draws (w : Word) : (s.jump w).draws = s.draws := rfl
@[simp] theorem State.jump_events (w : Word) : (s.jump w).events = s.events := rfl
@[simp] theorem State.jump_params (w : Word) : (s.jump w).params = s.params := rfl

/-! ## State.advance -/

@[simp] theorem State.advance_regs (n : Nat) : (s.advance n).regs = s.regs := rfl
@[simp] theorem State.advance_flags (n : Nat) : (s.advance n).flags = s.flags := rfl
@[simp] theorem State.advance_sp (n : Nat) : (s.advance n).sp = s.sp := rfl
@[simp] theorem State.advance_pc (n : Nat) : (s.advance n).pc = s.nextPc n := rfl
@[simp] theorem State.advance_ctl (n : Nat) : (s.advance n).ctl = s.ctl := rfl
@[simp] theorem State.advance_mem (n : Nat) : (s.advance n).mem = s.mem := rfl
@[simp] theorem State.advance_lines (n : Nat) : (s.advance n).lines = s.lines := rfl
@[simp] theorem State.advance_script (n : Nat) : (s.advance n).script = s.script := rfl
@[simp] theorem State.advance_portIn (n : Nat) : (s.advance n).portIn = s.portIn := rfl
@[simp] theorem State.advance_firstFetch (n : Nat) : (s.advance n).firstFetch = s.firstFetch := rfl
@[simp] theorem State.advance_draws (n : Nat) : (s.advance n).draws = s.draws := rfl
@[simp] theorem State.advance_events (n : Nat) : (s.advance n).events = s.events := rfl
@[simp] theorem State.advance_params (n : Nat) : (s.advance n).params = s.params := rfl

/-! ## State.setCtl -/

@[simp] theorem State.setCtl_regs (c : Ctl) : (s.setCtl c).regs = s.regs := rfl
@[simp] theorem State.setCtl_flags (c : Ctl) : (s.setCtl c).flags = s.flags := rfl
@[simp] theorem State.setCtl_sp (c : Ctl) : (s.setCtl c).sp = s.sp := rfl
@[simp] theorem State.setCtl_pc (c : Ctl) : (s.setCtl c).pc = s.pc := rfl
@[simp] theorem State.setCtl_ctl (c : Ctl) : (s.setCtl c).ctl = c := rfl
@[simp] theorem State.setCtl_mem (c : Ctl) : (s.setCtl c).mem = s.mem := rfl
@[simp] theorem State.setCtl_lines (c : Ctl) : (s.setCtl c).lines = s.lines := rfl
@[simp] theorem State.setCtl_script (c : Ctl) : (s.setCtl c).script = s.script := rfl
@[simp] theorem State.setCtl_portIn (c : Ctl) : (s.setCtl c).portIn = s.portIn := rfl
@[simp] theorem State.setCtl_firstFetch (c : Ctl) : (s.setCtl c).firstFetch = s.firstFetch := rfl
@[simp] theorem State.setCtl_draws (c : Ctl) : (s.setCtl c).draws = s.draws := rfl
@[simp] theorem State.setCtl_events (c : Ctl) : (s.setCtl c).events = s.events := rfl
@[simp] theorem State.setCtl_params (c : Ctl) : (s.setCtl c).params = s.params := rfl

/-! ## State.store -/

@[simp] theorem State.store_regs (a : Word) (v : Byte) : (s.store a v).regs = s.regs := rfl
@[simp] theorem State.store_flags (a : Word) (v : Byte) : (s.store a v).flags = s.flags := rfl
@[simp] theorem State.store_sp (a : Word) (v : Byte) : (s.store a v).sp = s.sp := rfl
@[simp] theorem State.store_pc (a : Word) (v : Byte) : (s.store a v).pc = s.pc := rfl
@[simp] theorem State.store_ctl (a : Word) (v : Byte) : (s.store a v).ctl = s.ctl := rfl
@[simp] theorem State.store_mem (a : Word) (v : Byte) : (s.store a v).mem = s.mem.write a v := rfl
@[simp] theorem State.store_lines (a : Word) (v : Byte) : (s.store a v).lines = s.lines := rfl
@[simp] theorem State.store_script (a : Word) (v : Byte) : (s.store a v).script = s.script := rfl
@[simp] theorem State.store_portIn (a : Word) (v : Byte) : (s.store a v).portIn = s.portIn := rfl
@[simp] theorem State.store_firstFetch (a : Word) (v : Byte) : (s.store a v).firstFetch = s.firstFetch := rfl
@[simp] theorem State.store_draws (a : Word) (v : Byte) : (s.store a v).draws = s.draws := rfl
@[simp] theorem State.store_events (a : Word) (v : Byte) : (s.store a v).events = s.events := rfl
@[simp] theorem State.store_params (a : Word) (v : Byte) : (s.store a v).params = s.params := rfl

/-! ## State.storeM -/

@[simp] theorem State.storeM_regs (v : Byte) : (s.storeM v).regs = s.regs := rfl
@[simp] theorem State.storeM_flags (v : Byte) : (s.storeM v).flags = s.flags := rfl
@[simp] theorem State.storeM_sp (v : Byte) : (s.storeM v).sp = s.sp := rfl
@[simp] theorem State.storeM_pc (v : Byte) : (s.storeM v).pc = s.pc := rfl
@[simp] theorem State.storeM_ctl (v : Byte) : (s.storeM v).ctl = s.ctl := rfl
@[simp] theorem State.storeM_mem (v : Byte) : (s.storeM v).mem = s.mem.write s.hl v := rfl
@[simp] theorem State.storeM_lines (v : Byte) : (s.storeM v).lines = s.lines := rfl
@[simp] theorem State.storeM_script (v : Byte) : (s.storeM v).script = s.script := rfl
@[simp] theorem State.storeM_portIn (v : Byte) : (s.storeM v).portIn = s.portIn := rfl
@[simp] theorem State.storeM_firstFetch (v : Byte) : (s.storeM v).firstFetch = s.firstFetch := rfl
@[simp] theorem State.storeM_draws (v : Byte) : (s.storeM v).draws = s.draws := rfl
@[simp] theorem State.storeM_events (v : Byte) : (s.storeM v).events = s.events := rfl
@[simp] theorem State.storeM_params (v : Byte) : (s.storeM v).params = s.params := rfl

/-! ## State.push16 -/

@[simp] theorem State.push16_regs (w : Word) : (s.push16 w).regs = s.regs := rfl
@[simp] theorem State.push16_flags (w : Word) : (s.push16 w).flags = s.flags := rfl
@[simp] theorem State.push16_sp (w : Word) : (s.push16 w).sp = s.sp - 2 := rfl
@[simp] theorem State.push16_pc (w : Word) : (s.push16 w).pc = s.pc := rfl
@[simp] theorem State.push16_ctl (w : Word) : (s.push16 w).ctl = s.ctl := rfl
@[simp] theorem State.push16_mem (w : Word) : (s.push16 w).mem = (s.mem.write (s.sp - 1) (highByte w)).write (s.sp - 2) (lowByte w) := rfl
@[simp] theorem State.push16_lines (w : Word) : (s.push16 w).lines = s.lines := rfl
@[simp] theorem State.push16_script (w : Word) : (s.push16 w).script = s.script := rfl
@[simp] theorem State.push16_portIn (w : Word) : (s.push16 w).portIn = s.portIn := rfl
@[simp] theorem State.push16_firstFetch (w : Word) : (s.push16 w).firstFetch = s.firstFetch := rfl
@[simp] theorem State.push16_draws (w : Word) : (s.push16 w).draws = s.draws := rfl
@[simp] theorem State.push16_events (w : Word) : (s.push16 w).events = s.events := rfl
@[simp] theorem State.push16_params (w : Word) : (s.push16 w).params = s.params := rfl

/-! ## State.call -/

@[simp] theorem State.call_regs (ret w : Word) : (s.call ret w).regs = s.regs := rfl
@[simp] theorem State.call_flags (ret w : Word) : (s.call ret w).flags = s.flags := rfl
@[simp] theorem State.call_sp (ret w : Word) : (s.call ret w).sp = s.sp - 2 := rfl
@[simp] theorem State.call_pc (ret w : Word) : (s.call ret w).pc = w := rfl
@[simp] theorem State.call_ctl (ret w : Word) : (s.call ret w).ctl = s.ctl := rfl
@[simp] theorem State.call_mem (ret w : Word) : (s.call ret w).mem = (s.mem.write (s.sp - 1) (highByte ret)).write (s.sp - 2) (lowByte ret) := rfl
@[simp] theorem State.call_lines (ret w : Word) : (s.call ret w).lines = s.lines := rfl
@[simp] theorem State.call_script (ret w : Word) : (s.call ret w).script = s.script := rfl
@[simp] theorem State.call_portIn (ret w : Word) : (s.call ret w).portIn = s.portIn := rfl
@[simp] theorem State.call_firstFetch (ret w : Word) : (s.call ret w).firstFetch = s.firstFetch := rfl
@[simp] theorem State.call_draws (ret w : Word) : (s.call ret w).draws = s.draws := rfl
@[simp] theorem State.call_events (ret w : Word) : (s.call ret w).events = s.events := rfl
@[simp] theorem State.call_params (ret w : Word) : (s.call ret w).params = s.params := rfl

/-! ## State.emit -/

@[simp] theorem State.emit_regs (e : OutEvent) : (s.emit e).regs = s.regs := rfl
@[simp] theorem State.emit_flags (e : OutEvent) : (s.emit e).flags = s.flags := rfl
@[simp] theorem State.emit_sp (e : OutEvent) : (s.emit e).sp = s.sp := rfl
@[simp] theorem State.emit_pc (e : OutEvent) : (s.emit e).pc = s.pc := rfl
@[simp] theorem State.emit_ctl (e : OutEvent) : (s.emit e).ctl = s.ctl := rfl
@[simp] theorem State.emit_mem (e : OutEvent) : (s.emit e).mem = s.mem := rfl
@[simp] theorem State.emit_lines (e : OutEvent) : (s.emit e).lines = s.lines := rfl
@[simp] theorem State.emit_script (e : OutEvent) : (s.emit e).script = s.script := rfl
@[simp] theorem State.emit_portIn (e : OutEvent) : (s.emit e).portIn = s.portIn := rfl
@[simp] theorem State.emit_firstFetch (e : OutEvent) : (s.emit e).firstFetch = s.firstFetch := rfl
@[simp] theorem State.emit_draws (e : OutEvent) : (s.emit e).draws = s.draws := rfl
@[simp] theorem State.emit_events (e : OutEvent) : (s.emit e).events = e :: s.events := rfl
@[simp] theorem State.emit_params (e : OutEvent) : (s.emit e).params = s.params := rfl

/-! ## State.drew -/

@[simp] theorem State.drew_regs : (s.drew).regs = s.regs := rfl
@[simp] theorem State.drew_flags : (s.drew).flags = s.flags := rfl
@[simp] theorem State.drew_sp : (s.drew).sp = s.sp := rfl
@[simp] theorem State.drew_pc : (s.drew).pc = s.pc := rfl
@[simp] theorem State.drew_ctl : (s.drew).ctl = s.ctl := rfl
@[simp] theorem State.drew_mem : (s.drew).mem = s.mem := rfl
@[simp] theorem State.drew_lines : (s.drew).lines = s.lines := rfl
@[simp] theorem State.drew_script : (s.drew).script = s.script := rfl
@[simp] theorem State.drew_portIn : (s.drew).portIn = s.portIn := rfl
@[simp] theorem State.drew_firstFetch : (s.drew).firstFetch = s.firstFetch := rfl
@[simp] theorem State.drew_draws : (s.drew).draws = s.draws + 1 := rfl
@[simp] theorem State.drew_events : (s.drew).events = s.events := rfl
@[simp] theorem State.drew_params : (s.drew).params = s.params := rfl

/-! ## State.ioWrite -/

@[simp] theorem State.ioWrite_regs (port v : Byte) : (s.ioWrite port v).regs = s.regs := rfl
@[simp] theorem State.ioWrite_flags (port v : Byte) : (s.ioWrite port v).flags = s.flags := rfl
@[simp] theorem State.ioWrite_sp (port v : Byte) : (s.ioWrite port v).sp = s.sp := rfl
@[simp] theorem State.ioWrite_pc (port v : Byte) : (s.ioWrite port v).pc = s.pc := rfl
@[simp] theorem State.ioWrite_ctl (port v : Byte) : (s.ioWrite port v).ctl = s.ctl := rfl
@[simp] theorem State.ioWrite_mem (port v : Byte) : (s.ioWrite port v).mem = s.mem := rfl
@[simp] theorem State.ioWrite_lines (port v : Byte) : (s.ioWrite port v).lines = s.lines := rfl
@[simp] theorem State.ioWrite_script (port v : Byte) : (s.ioWrite port v).script = s.script := rfl
@[simp] theorem State.ioWrite_portIn (port v : Byte) : (s.ioWrite port v).portIn = s.portIn := rfl
@[simp] theorem State.ioWrite_firstFetch (port v : Byte) : (s.ioWrite port v).firstFetch = s.firstFetch := rfl
@[simp] theorem State.ioWrite_draws (port v : Byte) : (s.ioWrite port v).draws = s.draws := rfl
@[simp] theorem State.ioWrite_events (port v : Byte) : (s.ioWrite port v).events = .port port v :: s.events := rfl
@[simp] theorem State.ioWrite_params (port v : Byte) : (s.ioWrite port v).params = s.params := rfl

/-! ## State.takeReset -/

@[simp] theorem State.takeReset_pc : (s.takeReset).pc = Config.resetPc := rfl
@[simp] theorem State.takeReset_ctl : (s.takeReset).ctl = Ctl.reset := rfl
@[simp] theorem State.takeReset_mem : (s.takeReset).mem = s.mem := rfl
@[simp] theorem State.takeReset_lines : (s.takeReset).lines = s.lines := rfl
@[simp] theorem State.takeReset_script : (s.takeReset).script = s.script := rfl
@[simp] theorem State.takeReset_portIn : (s.takeReset).portIn = s.portIn := rfl
@[simp] theorem State.takeReset_firstFetch : (s.takeReset).firstFetch = true := rfl
@[simp] theorem State.takeReset_draws : (s.takeReset).draws = s.draws + 1 := rfl
@[simp] theorem State.takeReset_events : (s.takeReset).events = s.events := rfl
@[simp] theorem State.takeReset_params : (s.takeReset).params = s.params := rfl

/-! ## State.takeVectored -/

@[simp] theorem State.takeVectored_regs (src : IntSource) (w : Word) : (s.takeVectored src w).regs = s.regs := rfl
@[simp] theorem State.takeVectored_flags (src : IntSource) (w : Word) : (s.takeVectored src w).flags = s.flags := rfl
@[simp] theorem State.takeVectored_sp (src : IntSource) (w : Word) : (s.takeVectored src w).sp = s.sp - 2 := rfl
@[simp] theorem State.takeVectored_pc (src : IntSource) (w : Word) : (s.takeVectored src w).pc = w := rfl
@[simp] theorem State.takeVectored_ctl (src : IntSource) (w : Word) : (s.takeVectored src w).ctl = s.ctl.acknowledge src := rfl
@[simp] theorem State.takeVectored_mem (src : IntSource) (w : Word) : (s.takeVectored src w).mem = (s.mem.write (s.sp - 1) (highByte s.pc)).write (s.sp - 2) (lowByte s.pc) := rfl
@[simp] theorem State.takeVectored_lines (src : IntSource) (w : Word) : (s.takeVectored src w).lines = s.lines := rfl
@[simp] theorem State.takeVectored_script (src : IntSource) (w : Word) : (s.takeVectored src w).script = s.script := rfl
@[simp] theorem State.takeVectored_portIn (src : IntSource) (w : Word) : (s.takeVectored src w).portIn = s.portIn := rfl
@[simp] theorem State.takeVectored_firstFetch (src : IntSource) (w : Word) : (s.takeVectored src w).firstFetch = s.firstFetch := rfl
@[simp] theorem State.takeVectored_draws (src : IntSource) (w : Word) : (s.takeVectored src w).draws = s.draws := rfl
@[simp] theorem State.takeVectored_events (src : IntSource) (w : Word) : (s.takeVectored src w).events = s.events := rfl
@[simp] theorem State.takeVectored_params (src : IntSource) (w : Word) : (s.takeVectored src w).params = s.params := rfl

/-! ## Updates that depend on an argument: setPair, ioRead, sample -/

@[simp] theorem State.setPair_flags (pair : Pair) (w : Word) : (s.setPair pair w).flags = s.flags := by cases pair <;> rfl
@[simp] theorem State.setPair_pc (pair : Pair) (w : Word) : (s.setPair pair w).pc = s.pc := by cases pair <;> rfl
@[simp] theorem State.setPair_ctl (pair : Pair) (w : Word) : (s.setPair pair w).ctl = s.ctl := by cases pair <;> rfl
@[simp] theorem State.setPair_mem (pair : Pair) (w : Word) : (s.setPair pair w).mem = s.mem := by cases pair <;> rfl
@[simp] theorem State.setPair_lines (pair : Pair) (w : Word) : (s.setPair pair w).lines = s.lines := by cases pair <;> rfl
@[simp] theorem State.setPair_script (pair : Pair) (w : Word) : (s.setPair pair w).script = s.script := by cases pair <;> rfl
@[simp] theorem State.setPair_portIn (pair : Pair) (w : Word) : (s.setPair pair w).portIn = s.portIn := by cases pair <;> rfl
@[simp] theorem State.setPair_firstFetch (pair : Pair) (w : Word) : (s.setPair pair w).firstFetch = s.firstFetch := by cases pair <;> rfl
@[simp] theorem State.setPair_draws (pair : Pair) (w : Word) : (s.setPair pair w).draws = s.draws := by cases pair <;> rfl
@[simp] theorem State.setPair_events (pair : Pair) (w : Word) : (s.setPair pair w).events = s.events := by cases pair <;> rfl
@[simp] theorem State.setPair_params (pair : Pair) (w : Word) : (s.setPair pair w).params = s.params := by cases pair <;> rfl

@[simp] theorem State.setPair_bc_sp (w : Word) : (s.setPair .bc w).sp = s.sp := rfl
@[simp] theorem State.setPair_de_sp (w : Word) : (s.setPair .de w).sp = s.sp := rfl
@[simp] theorem State.setPair_hl_sp (w : Word) : (s.setPair .hl w).sp = s.sp := rfl
@[simp] theorem State.setPair_sp_sp (w : Word) : (s.setPair .sp w).sp = w := rfl
@[simp] theorem State.setPair_sp_regs (w : Word) : (s.setPair .sp w).regs = s.regs := rfl

@[simp] theorem State.ioRead_regs (port : Byte) : (s.ioRead port).2.regs = s.regs := by
  unfold State.ioRead
  split <;> rfl
@[simp] theorem State.ioRead_flags (port : Byte) : (s.ioRead port).2.flags = s.flags := by
  unfold State.ioRead
  split <;> rfl
@[simp] theorem State.ioRead_sp (port : Byte) : (s.ioRead port).2.sp = s.sp := by
  unfold State.ioRead
  split <;> rfl
@[simp] theorem State.ioRead_pc (port : Byte) : (s.ioRead port).2.pc = s.pc := by
  unfold State.ioRead
  split <;> rfl
@[simp] theorem State.ioRead_ctl (port : Byte) : (s.ioRead port).2.ctl = s.ctl := by
  unfold State.ioRead
  split <;> rfl
@[simp] theorem State.ioRead_mem (port : Byte) : (s.ioRead port).2.mem = s.mem := by
  unfold State.ioRead
  split <;> rfl
@[simp] theorem State.ioRead_lines (port : Byte) : (s.ioRead port).2.lines = s.lines := by
  unfold State.ioRead
  split <;> rfl
@[simp] theorem State.ioRead_script (port : Byte) : (s.ioRead port).2.script = s.script := by
  unfold State.ioRead
  split <;> rfl
@[simp] theorem State.ioRead_firstFetch (port : Byte) : (s.ioRead port).2.firstFetch = s.firstFetch := by
  unfold State.ioRead
  split <;> rfl
@[simp] theorem State.ioRead_events (port : Byte) : (s.ioRead port).2.events = s.events := by
  unfold State.ioRead
  split <;> rfl
@[simp] theorem State.ioRead_params (port : Byte) : (s.ioRead port).2.params = s.params := by
  unfold State.ioRead
  split <;> rfl

@[simp] theorem State.sample_regs : s.sample.regs = s.regs := by
  unfold State.sample
  split <;> rfl
@[simp] theorem State.sample_flags : s.sample.flags = s.flags := by
  unfold State.sample
  split <;> rfl
@[simp] theorem State.sample_sp : s.sample.sp = s.sp := by
  unfold State.sample
  split <;> rfl
@[simp] theorem State.sample_pc : s.sample.pc = s.pc := by
  unfold State.sample
  split <;> rfl
@[simp] theorem State.sample_mem : s.sample.mem = s.mem := by
  unfold State.sample
  split <;> rfl
@[simp] theorem State.sample_portIn : s.sample.portIn = s.portIn := by
  unfold State.sample
  split <;> rfl
@[simp] theorem State.sample_firstFetch : s.sample.firstFetch = s.firstFetch := by
  unfold State.sample
  split <;> rfl
@[simp] theorem State.sample_draws : s.sample.draws = s.draws := by
  unfold State.sample
  split <;> rfl
@[simp] theorem State.sample_events : s.sample.events = s.events := by
  unfold State.sample
  split <;> rfl
@[simp] theorem State.sample_params : s.sample.params = s.params := by
  unfold State.sample
  split <;> rfl

@[simp] theorem State.endInstr_regs (i : Instr) : (s.endInstr i).regs = s.regs := rfl
@[simp] theorem State.endInstr_flags (i : Instr) : (s.endInstr i).flags = s.flags := rfl
@[simp] theorem State.endInstr_sp (i : Instr) : (s.endInstr i).sp = s.sp := rfl
@[simp] theorem State.endInstr_pc (i : Instr) : (s.endInstr i).pc = s.pc := rfl
@[simp] theorem State.endInstr_mem (i : Instr) : (s.endInstr i).mem = s.mem := rfl
@[simp] theorem State.endInstr_lines (i : Instr) : (s.endInstr i).lines = s.lines := rfl
@[simp] theorem State.endInstr_script (i : Instr) : (s.endInstr i).script = s.script := rfl
@[simp] theorem State.endInstr_portIn (i : Instr) : (s.endInstr i).portIn = s.portIn := rfl
@[simp] theorem State.endInstr_firstFetch (i : Instr) : (s.endInstr i).firstFetch = false := rfl
@[simp] theorem State.endInstr_draws (i : Instr) : (s.endInstr i).draws = s.draws := rfl
@[simp] theorem State.endInstr_events (i : Instr) : (s.endInstr i).events = s.events := rfl
@[simp] theorem State.endInstr_params (i : Instr) : (s.endInstr i).params = s.params := rfl

end Sys2Proof.Machine
end

