-- ==== Sys2Proof/Laws/Registers.lean ====
section
/-! SUPPORT. The laws of registers and register pairs: a read after a write, and which updates leave them alone. -/

namespace Sys2Proof.Machine

/-! ## Bytes and words -/

theorem joinBytes_toNat (hi lo : Byte) : (joinBytes hi lo).toNat = hi.toNat * 256 + lo.toNat := by
  have e : (joinBytes hi lo).toNat = hi.toNat <<< 8 ||| lo.toNat := BitVec.toNat_append hi lo
  rw [e, ← Nat.shiftLeft_add_eq_or_of_lt lo.isLt, Nat.shiftLeft_eq]

theorem lowByte_toNat (w : Word) : (lowByte w).toNat = w.toNat % 256 := by simp [lowByte]

theorem highByte_toNat (w : Word) : (highByte w).toNat = w.toNat / 256 := by
  have := w.isLt
  simp [highByte, Nat.shiftRight_eq_div_pow]
  omega

@[simp] theorem lowByte_joinBytes (hi lo : Byte) : lowByte (joinBytes hi lo) = lo := by
  apply BitVec.eq_of_toNat_eq
  have := lo.isLt
  rw [lowByte_toNat, joinBytes_toNat]
  omega

@[simp] theorem highByte_joinBytes (hi lo : Byte) : highByte (joinBytes hi lo) = hi := by
  apply BitVec.eq_of_toNat_eq
  have := lo.isLt
  rw [highByte_toNat, joinBytes_toNat]
  omega

@[simp] theorem joinBytes_high_low (w : Word) : joinBytes (highByte w) (lowByte w) = w := by
  apply BitVec.eq_of_toNat_eq
  rw [joinBytes_toNat, highByte_toNat, lowByte_toNat]
  omega

/-- A word is its high byte followed by its low byte. -/
theorem word_eq_iff (v w : Word) : v = w ↔ highByte v = highByte w ∧ lowByte v = lowByte w := by
  constructor
  · rintro rfl
    exact ⟨rfl, rfl⟩
  · rintro ⟨h, l⟩
    rw [← joinBytes_high_low v, h, l, joinBytes_high_low]

/-! ## One register -/

@[simp] theorem Regs.get_set_same (x : Regs) (r : Reg) (v : Byte) : (x.set r v).get r = v := by cases r <;> rfl

theorem Regs.get_set_other (x : Regs) {r q : Reg} (v : Byte) (h : q ≠ r) : (x.set r v).get q = x.get q := by
  cases r <;> cases q <;> first | rfl | exact absurd rfl h

@[simp] theorem Regs.set_set (x : Regs) (r : Reg) (v w : Byte) : (x.set r v).set r w = x.set r w := by cases r <;> rfl

/-- Writing a register its own content changes nothing. -/
@[simp] theorem Regs.set_get (x : Regs) (r : Reg) : x.set r (x.get r) = x := by cases r <;> rfl

/-- Two register files that agree on every register are equal. -/
theorem Regs.ext_get (x y : Regs) (h : ∀ r, x.get r = y.get r) : x = y := by
  cases x
  cases y
  simpa [Regs.get] using ⟨h .b, h .c, h .d, h .e, h .h, h .l, h .a⟩

variable (s : State)

@[simp] theorem State.reg_setReg_same (r : Reg) (v : Byte) : (s.setReg r v).reg r = v := Regs.get_set_same _ _ _

theorem State.reg_setReg_other {r q : Reg} (v : Byte) (h : q ≠ r) : (s.setReg r v).reg q = s.reg q :=
  Regs.get_set_other _ _ h

@[simp] theorem State.acc_setAcc (v : Byte) : (s.setAcc v).acc = v := rfl

theorem State.reg_setAcc_other {q : Reg} (v : Byte) (h : q ≠ .a) : (s.setAcc v).reg q = s.reg q :=
  Regs.get_set_other _ _ h

theorem State.reg_a : s.reg .a = s.acc := rfl

theorem State.hl_eq : s.hl = joinBytes (s.reg .h) (s.reg .l) := rfl

/-- Writing A leaves every pair alone: A is in none of them. -/
@[simp] theorem State.pair_setAcc (pair : Pair) (v : Byte) : (s.setAcc v).pair pair = s.pair pair := by
  cases pair <;> rfl

@[simp] theorem State.hl_setAcc (v : Byte) : (s.setAcc v).hl = s.hl := rfl

/-- Two states that agree on every register and every other field are equal. -/
theorem State.ext_reg {s t : State} (regs : ∀ r, s.reg r = t.reg r) (flags : s.flags = t.flags) (sp : s.sp = t.sp)
    (pc : s.pc = t.pc) (ctl : s.ctl = t.ctl) (mem : s.mem = t.mem) (lines : s.lines = t.lines)
    (script : s.script = t.script) (portIn : s.portIn = t.portIn)
    (firstFetch : s.firstFetch = t.firstFetch) (draws : s.draws = t.draws) (events : s.events = t.events)
    (params : s.params = t.params) : s = t := by
  have := Regs.ext_get _ _ regs
  cases s
  cases t
  simp_all

/-! ## Pairs -/

@[simp] theorem State.pair_setPair_same (pair : Pair) (w : Word) : (s.setPair pair w).pair pair = w := by
  cases pair <;> simp [State.setPair, State.pair]

theorem State.pair_setPair_other {p q : Pair} (w : Word) (h : q ≠ p) : (s.setPair p w).pair q = s.pair q := by
  cases p <;> cases q <;> first | rfl | exact absurd rfl h

/-- Writing a pair leaves every register outside it alone. -/
theorem State.reg_setPair_other {pair : Pair} {r : Reg} (w : Word)
    (h : r ∉ (match pair with | .bc => [Reg.b, .c] | .de => [.d, .e] | .hl => [.h, .l] | .sp => [])) :
    (s.setPair pair w).reg r = s.reg r := by
  cases pair <;> cases r <;> first | rfl | simp at h

@[simp] theorem State.acc_setPair (pair : Pair) (w : Word) : (s.setPair pair w).acc = s.acc := by cases pair <;> rfl

@[simp] theorem State.setPair_bc_reg_b (w : Word) : (s.setPair .bc w).reg .b = highByte w := rfl
@[simp] theorem State.setPair_bc_reg_c (w : Word) : (s.setPair .bc w).reg .c = lowByte w := rfl
@[simp] theorem State.setPair_bc_reg_d (w : Word) : (s.setPair .bc w).reg .d = s.reg .d := rfl
@[simp] theorem State.setPair_bc_reg_e (w : Word) : (s.setPair .bc w).reg .e = s.reg .e := rfl
@[simp] theorem State.setPair_bc_reg_h (w : Word) : (s.setPair .bc w).reg .h = s.reg .h := rfl
@[simp] theorem State.setPair_bc_reg_l (w : Word) : (s.setPair .bc w).reg .l = s.reg .l := rfl
@[simp] theorem State.setPair_bc_reg_a (w : Word) : (s.setPair .bc w).reg .a = s.reg .a := rfl
@[simp] theorem State.setPair_de_reg_b (w : Word) : (s.setPair .de w).reg .b = s.reg .b := rfl
@[simp] theorem State.setPair_de_reg_c (w : Word) : (s.setPair .de w).reg .c = s.reg .c := rfl
@[simp] theorem State.setPair_de_reg_d (w : Word) : (s.setPair .de w).reg .d = highByte w := rfl
@[simp] theorem State.setPair_de_reg_e (w : Word) : (s.setPair .de w).reg .e = lowByte w := rfl
@[simp] theorem State.setPair_de_reg_h (w : Word) : (s.setPair .de w).reg .h = s.reg .h := rfl
@[simp] theorem State.setPair_de_reg_l (w : Word) : (s.setPair .de w).reg .l = s.reg .l := rfl
@[simp] theorem State.setPair_de_reg_a (w : Word) : (s.setPair .de w).reg .a = s.reg .a := rfl
@[simp] theorem State.setPair_hl_reg_b (w : Word) : (s.setPair .hl w).reg .b = s.reg .b := rfl
@[simp] theorem State.setPair_hl_reg_c (w : Word) : (s.setPair .hl w).reg .c = s.reg .c := rfl
@[simp] theorem State.setPair_hl_reg_d (w : Word) : (s.setPair .hl w).reg .d = s.reg .d := rfl
@[simp] theorem State.setPair_hl_reg_e (w : Word) : (s.setPair .hl w).reg .e = s.reg .e := rfl
@[simp] theorem State.setPair_hl_reg_h (w : Word) : (s.setPair .hl w).reg .h = highByte w := rfl
@[simp] theorem State.setPair_hl_reg_l (w : Word) : (s.setPair .hl w).reg .l = lowByte w := rfl
@[simp] theorem State.setPair_hl_reg_a (w : Word) : (s.setPair .hl w).reg .a = s.reg .a := rfl
@[simp] theorem State.setPair_sp_reg_b (w : Word) : (s.setPair .sp w).reg .b = s.reg .b := rfl
@[simp] theorem State.setPair_sp_reg_c (w : Word) : (s.setPair .sp w).reg .c = s.reg .c := rfl
@[simp] theorem State.setPair_sp_reg_d (w : Word) : (s.setPair .sp w).reg .d = s.reg .d := rfl
@[simp] theorem State.setPair_sp_reg_e (w : Word) : (s.setPair .sp w).reg .e = s.reg .e := rfl
@[simp] theorem State.setPair_sp_reg_h (w : Word) : (s.setPair .sp w).reg .h = s.reg .h := rfl
@[simp] theorem State.setPair_sp_reg_l (w : Word) : (s.setPair .sp w).reg .l = s.reg .l := rfl
@[simp] theorem State.setPair_sp_reg_a (w : Word) : (s.setPair .sp w).reg .a = s.reg .a := rfl

@[simp] theorem State.pair_hl : s.pair .hl = s.hl := rfl
@[simp] theorem State.pair_sp : s.pair .sp = s.sp := rfl
@[simp] theorem State.setPair_hl_hl (w : Word) : (s.setPair .hl w).hl = w := joinBytes_high_low w
@[simp] theorem State.setPair_bc_hl (w : Word) : (s.setPair .bc w).hl = s.hl := rfl
@[simp] theorem State.setPair_de_hl (w : Word) : (s.setPair .de w).hl = s.hl := rfl
@[simp] theorem State.setPair_sp_hl (w : Word) : (s.setPair .sp w).hl = s.hl := rfl
@[simp] theorem State.highByte_pair_bc : highByte (s.pair .bc) = s.reg .b := highByte_joinBytes _ _
@[simp] theorem State.lowByte_pair_bc : lowByte (s.pair .bc) = s.reg .c := lowByte_joinBytes _ _
@[simp] theorem State.highByte_pair_de : highByte (s.pair .de) = s.reg .d := highByte_joinBytes _ _
@[simp] theorem State.lowByte_pair_de : lowByte (s.pair .de) = s.reg .e := lowByte_joinBytes _ _
@[simp] theorem State.highByte_hl : highByte s.hl = s.reg .h := highByte_joinBytes _ _
@[simp] theorem State.lowByte_hl : lowByte s.hl = s.reg .l := lowByte_joinBytes _ _

/-- SP is written by `setPair` only as the pair operand SP. -/
theorem State.setPair_sp_of_ne {pair : Pair} (w : Word) (h : pair ≠ .sp) : (s.setPair pair w).sp = s.sp := by
  cases pair <;> first | rfl | exact absurd rfl h

/-! ## Updates that leave the registers alone -/

@[simp] theorem State.reg_setFlags (f : Flags) (r : Reg) : (s.setFlags f).reg r = s.reg r := rfl
@[simp] theorem State.acc_setFlags (f : Flags) : (s.setFlags f).acc = s.acc := rfl
@[simp] theorem State.hl_setFlags (f : Flags) : (s.setFlags f).hl = s.hl := rfl
@[simp] theorem State.reg_setCy (c : Bool) (r : Reg) : (s.setCy c).reg r = s.reg r := rfl
@[simp] theorem State.acc_setCy (c : Bool) : (s.setCy c).acc = s.acc := rfl
@[simp] theorem State.hl_setCy (c : Bool) : (s.setCy c).hl = s.hl := rfl
@[simp] theorem State.reg_jump (w : Word) (r : Reg) : (s.jump w).reg r = s.reg r := rfl
@[simp] theorem State.acc_jump (w : Word) : (s.jump w).acc = s.acc := rfl
@[simp] theorem State.hl_jump (w : Word) : (s.jump w).hl = s.hl := rfl
@[simp] theorem State.reg_advance (n : Nat) (r : Reg) : (s.advance n).reg r = s.reg r := rfl
@[simp] theorem State.acc_advance (n : Nat) : (s.advance n).acc = s.acc := rfl
@[simp] theorem State.hl_advance (n : Nat) : (s.advance n).hl = s.hl := rfl
@[simp] theorem State.reg_setCtl (c : Ctl) (r : Reg) : (s.setCtl c).reg r = s.reg r := rfl
@[simp] theorem State.acc_setCtl (c : Ctl) : (s.setCtl c).acc = s.acc := rfl
@[simp] theorem State.hl_setCtl (c : Ctl) : (s.setCtl c).hl = s.hl := rfl
@[simp] theorem State.reg_store (a : Word) (v : Byte) (r : Reg) : (s.store a v).reg r = s.reg r := rfl
@[simp] theorem State.acc_store (a : Word) (v : Byte) : (s.store a v).acc = s.acc := rfl
@[simp] theorem State.hl_store (a : Word) (v : Byte) : (s.store a v).hl = s.hl := rfl
@[simp] theorem State.reg_storeM (v : Byte) (r : Reg) : (s.storeM v).reg r = s.reg r := rfl
@[simp] theorem State.acc_storeM (v : Byte) : (s.storeM v).acc = s.acc := rfl
@[simp] theorem State.hl_storeM (v : Byte) : (s.storeM v).hl = s.hl := rfl
@[simp] theorem State.reg_emit (e : OutEvent) (r : Reg) : (s.emit e).reg r = s.reg r := rfl
@[simp] theorem State.acc_emit (e : OutEvent) : (s.emit e).acc = s.acc := rfl
@[simp] theorem State.hl_emit (e : OutEvent) : (s.emit e).hl = s.hl := rfl
@[simp] theorem State.reg_drew (r : Reg) : (s.drew).reg r = s.reg r := rfl
@[simp] theorem State.acc_drew : (s.drew).acc = s.acc := rfl
@[simp] theorem State.hl_drew : (s.drew).hl = s.hl := rfl
@[simp] theorem State.reg_ioWrite (port v : Byte) (r : Reg) : (s.ioWrite port v).reg r = s.reg r := rfl
@[simp] theorem State.acc_ioWrite (port v : Byte) : (s.ioWrite port v).acc = s.acc := rfl
@[simp] theorem State.hl_ioWrite (port v : Byte) : (s.ioWrite port v).hl = s.hl := rfl
@[simp] theorem State.reg_setSp (w : Word) (r : Reg) : (s.setSp w).reg r = s.reg r := rfl
@[simp] theorem State.acc_setSp (w : Word) : (s.setSp w).acc = s.acc := rfl
@[simp] theorem State.hl_setSp (w : Word) : (s.setSp w).hl = s.hl := rfl
@[simp] theorem State.reg_push16 (w : Word) (r : Reg) : (s.push16 w).reg r = s.reg r := rfl
@[simp] theorem State.acc_push16 (w : Word) : (s.push16 w).acc = s.acc := rfl
@[simp] theorem State.hl_push16 (w : Word) : (s.push16 w).hl = s.hl := rfl
@[simp] theorem State.reg_call (ret w : Word) (r : Reg) : (s.call ret w).reg r = s.reg r := rfl
@[simp] theorem State.acc_call (ret w : Word) : (s.call ret w).acc = s.acc := rfl
@[simp] theorem State.hl_call (ret w : Word) : (s.call ret w).hl = s.hl := rfl
@[simp] theorem State.reg_takeVectored (src : IntSource) (w : Word) (r : Reg) : (s.takeVectored src w).reg r = s.reg r := rfl
@[simp] theorem State.acc_takeVectored (src : IntSource) (w : Word) : (s.takeVectored src w).acc = s.acc := rfl
@[simp] theorem State.hl_takeVectored (src : IntSource) (w : Word) : (s.takeVectored src w).hl = s.hl := rfl
@[simp] theorem State.pair_setFlags (f : Flags) (pair : Pair) : (s.setFlags f).pair pair = s.pair pair := by cases pair <;> rfl
@[simp] theorem State.pair_setCy (c : Bool) (pair : Pair) : (s.setCy c).pair pair = s.pair pair := by cases pair <;> rfl
@[simp] theorem State.pair_jump (w : Word) (pair : Pair) : (s.jump w).pair pair = s.pair pair := by cases pair <;> rfl
@[simp] theorem State.pair_advance (n : Nat) (pair : Pair) : (s.advance n).pair pair = s.pair pair := by cases pair <;> rfl
@[simp] theorem State.pair_setCtl (c : Ctl) (pair : Pair) : (s.setCtl c).pair pair = s.pair pair := by cases pair <;> rfl
@[simp] theorem State.pair_store (a : Word) (v : Byte) (pair : Pair) : (s.store a v).pair pair = s.pair pair := by cases pair <;> rfl
@[simp] theorem State.pair_storeM (v : Byte) (pair : Pair) : (s.storeM v).pair pair = s.pair pair := by cases pair <;> rfl
@[simp] theorem State.pair_emit (e : OutEvent) (pair : Pair) : (s.emit e).pair pair = s.pair pair := by cases pair <;> rfl
@[simp] theorem State.pair_drew (pair : Pair) : (s.drew).pair pair = s.pair pair := by cases pair <;> rfl
@[simp] theorem State.pair_ioWrite (port v : Byte) (pair : Pair) : (s.ioWrite port v).pair pair = s.pair pair := by cases pair <;> rfl
theorem State.pair_setSp (w : Word) (pair : Pair) (h : pair ≠ .sp) : (s.setSp w).pair pair = s.pair pair := by
  cases pair <;> first | rfl | exact absurd rfl h
theorem State.pair_push16 (w : Word) (pair : Pair) (h : pair ≠ .sp) : (s.push16 w).pair pair = s.pair pair := by
  cases pair <;> first | rfl | exact absurd rfl h
theorem State.pair_call (ret w : Word) (pair : Pair) (h : pair ≠ .sp) : (s.call ret w).pair pair = s.pair pair := by
  cases pair <;> first | rfl | exact absurd rfl h
theorem State.pair_takeVectored (src : IntSource) (w : Word) (pair : Pair) (h : pair ≠ .sp) : (s.takeVectored src w).pair pair = s.pair pair := by
  cases pair <;> first | rfl | exact absurd rfl h

end Sys2Proof.Machine
end

