-- ==== Sys2Proof/Laws/Alu.lean ====
section
/-! SUPPORT. What each field holds after the shared accumulator operations: true by rfl. -/

namespace Sys2Proof.Machine

variable (s : State)

/-! ## State.addAcc -/

@[simp] theorem State.addAcc_acc (v : Byte) (cin : Bool) : (s.addAcc v cin).acc = (add8 s.acc v cin).res := rfl
@[simp] theorem State.addAcc_flags (v : Byte) (cin : Bool) : (s.addAcc v cin).flags = s.flags.ofAlu (add8 s.acc v cin) := rfl
theorem State.addAcc_reg_other (v : Byte) (cin : Bool) {r : Reg} (h : r ≠ .a) : (s.addAcc v cin).reg r = s.reg r :=
  Regs.get_set_other _ _ h
@[simp] theorem State.addAcc_sp (v : Byte) (cin : Bool) : (s.addAcc v cin).sp = s.sp := rfl
@[simp] theorem State.addAcc_pc (v : Byte) (cin : Bool) : (s.addAcc v cin).pc = s.pc := rfl
@[simp] theorem State.addAcc_ctl (v : Byte) (cin : Bool) : (s.addAcc v cin).ctl = s.ctl := rfl
@[simp] theorem State.addAcc_mem (v : Byte) (cin : Bool) : (s.addAcc v cin).mem = s.mem := rfl
@[simp] theorem State.addAcc_lines (v : Byte) (cin : Bool) : (s.addAcc v cin).lines = s.lines := rfl
@[simp] theorem State.addAcc_script (v : Byte) (cin : Bool) : (s.addAcc v cin).script = s.script := rfl
@[simp] theorem State.addAcc_portIn (v : Byte) (cin : Bool) : (s.addAcc v cin).portIn = s.portIn := rfl
@[simp] theorem State.addAcc_draws (v : Byte) (cin : Bool) : (s.addAcc v cin).draws = s.draws := rfl
@[simp] theorem State.addAcc_events (v : Byte) (cin : Bool) : (s.addAcc v cin).events = s.events := rfl
@[simp] theorem State.addAcc_params (v : Byte) (cin : Bool) : (s.addAcc v cin).params = s.params := rfl

/-! ## State.subAcc -/

@[simp] theorem State.subAcc_acc (v : Byte) (bin : Bool) : (s.subAcc v bin).acc = (sub8 s.params.acSub s.acc v bin).res := rfl
@[simp] theorem State.subAcc_flags (v : Byte) (bin : Bool) : (s.subAcc v bin).flags = s.flags.ofAlu (sub8 s.params.acSub s.acc v bin) := rfl
theorem State.subAcc_reg_other (v : Byte) (bin : Bool) {r : Reg} (h : r ≠ .a) : (s.subAcc v bin).reg r = s.reg r :=
  Regs.get_set_other _ _ h
@[simp] theorem State.subAcc_sp (v : Byte) (bin : Bool) : (s.subAcc v bin).sp = s.sp := rfl
@[simp] theorem State.subAcc_pc (v : Byte) (bin : Bool) : (s.subAcc v bin).pc = s.pc := rfl
@[simp] theorem State.subAcc_ctl (v : Byte) (bin : Bool) : (s.subAcc v bin).ctl = s.ctl := rfl
@[simp] theorem State.subAcc_mem (v : Byte) (bin : Bool) : (s.subAcc v bin).mem = s.mem := rfl
@[simp] theorem State.subAcc_lines (v : Byte) (bin : Bool) : (s.subAcc v bin).lines = s.lines := rfl
@[simp] theorem State.subAcc_script (v : Byte) (bin : Bool) : (s.subAcc v bin).script = s.script := rfl
@[simp] theorem State.subAcc_portIn (v : Byte) (bin : Bool) : (s.subAcc v bin).portIn = s.portIn := rfl
@[simp] theorem State.subAcc_draws (v : Byte) (bin : Bool) : (s.subAcc v bin).draws = s.draws := rfl
@[simp] theorem State.subAcc_events (v : Byte) (bin : Bool) : (s.subAcc v bin).events = s.events := rfl
@[simp] theorem State.subAcc_params (v : Byte) (bin : Bool) : (s.subAcc v bin).params = s.params := rfl

/-! ## State.cmpAcc -/

@[simp] theorem State.cmpAcc_acc (v : Byte) : (s.cmpAcc v).acc = s.acc := rfl
@[simp] theorem State.cmpAcc_flags (v : Byte) : (s.cmpAcc v).flags = s.flags.ofAlu (sub8 s.params.acSub s.acc v false) := rfl
@[simp] theorem State.cmpAcc_regs (v : Byte) : (s.cmpAcc v).regs = s.regs := rfl
@[simp] theorem State.cmpAcc_reg (v : Byte) (r : Reg) : (s.cmpAcc v).reg r = s.reg r := rfl
@[simp] theorem State.cmpAcc_sp (v : Byte) : (s.cmpAcc v).sp = s.sp := rfl
@[simp] theorem State.cmpAcc_pc (v : Byte) : (s.cmpAcc v).pc = s.pc := rfl
@[simp] theorem State.cmpAcc_ctl (v : Byte) : (s.cmpAcc v).ctl = s.ctl := rfl
@[simp] theorem State.cmpAcc_mem (v : Byte) : (s.cmpAcc v).mem = s.mem := rfl
@[simp] theorem State.cmpAcc_lines (v : Byte) : (s.cmpAcc v).lines = s.lines := rfl
@[simp] theorem State.cmpAcc_script (v : Byte) : (s.cmpAcc v).script = s.script := rfl
@[simp] theorem State.cmpAcc_portIn (v : Byte) : (s.cmpAcc v).portIn = s.portIn := rfl
@[simp] theorem State.cmpAcc_draws (v : Byte) : (s.cmpAcc v).draws = s.draws := rfl
@[simp] theorem State.cmpAcc_events (v : Byte) : (s.cmpAcc v).events = s.events := rfl
@[simp] theorem State.cmpAcc_params (v : Byte) : (s.cmpAcc v).params = s.params := rfl

/-! ## State.logicAcc -/

@[simp] theorem State.logicAcc_acc (op : LogicOp) (v : Byte) : (s.logicAcc op v).acc = op.apply s.acc v := rfl
@[simp] theorem State.logicAcc_flags (op : LogicOp) (v : Byte) : (s.logicAcc op v).flags = s.flags.ofLogic s.params.logicAc op (op.apply s.acc v) := rfl
theorem State.logicAcc_reg_other (op : LogicOp) (v : Byte) {r : Reg} (h : r ≠ .a) : (s.logicAcc op v).reg r = s.reg r :=
  Regs.get_set_other _ _ h
@[simp] theorem State.logicAcc_sp (op : LogicOp) (v : Byte) : (s.logicAcc op v).sp = s.sp := rfl
@[simp] theorem State.logicAcc_pc (op : LogicOp) (v : Byte) : (s.logicAcc op v).pc = s.pc := rfl
@[simp] theorem State.logicAcc_ctl (op : LogicOp) (v : Byte) : (s.logicAcc op v).ctl = s.ctl := rfl
@[simp] theorem State.logicAcc_mem (op : LogicOp) (v : Byte) : (s.logicAcc op v).mem = s.mem := rfl
@[simp] theorem State.logicAcc_lines (op : LogicOp) (v : Byte) : (s.logicAcc op v).lines = s.lines := rfl
@[simp] theorem State.logicAcc_script (op : LogicOp) (v : Byte) : (s.logicAcc op v).script = s.script := rfl
@[simp] theorem State.logicAcc_portIn (op : LogicOp) (v : Byte) : (s.logicAcc op v).portIn = s.portIn := rfl
@[simp] theorem State.logicAcc_draws (op : LogicOp) (v : Byte) : (s.logicAcc op v).draws = s.draws := rfl
@[simp] theorem State.logicAcc_events (op : LogicOp) (v : Byte) : (s.logicAcc op v).events = s.events := rfl
@[simp] theorem State.logicAcc_params (op : LogicOp) (v : Byte) : (s.logicAcc op v).params = s.params := rfl

end Sys2Proof.Machine
end

