-- ==== Sys2Proof/Laws/Memory.lean ====
section
/-! SUPPORT. The laws of memory: a read after a write, and that every memory operation keeps the canonical form. -/

namespace Sys2Proof.Machine

/-! ## Read after write -/

@[simp] theorem Memory.lookup_insert_same (m : Memory) (a : Nat) (v : Byte) : (m.insert a v).lookup a = some v := by
  induction m with
  | nil => simp [Memory.insert, Memory.lookup]
  | cons x m ih =>
    unfold Memory.insert
    split
    · simp [Memory.lookup]
    · split
      · simp [Memory.lookup]
      · rename_i h
        simp [Memory.lookup, Ne.symm h, ih]

theorem Memory.lookup_insert_other (m : Memory) {a b : Nat} (v : Byte) (h : b ≠ a) :
    (m.insert a v).lookup b = m.lookup b := by
  induction m with
  | nil => simp [Memory.insert, Memory.lookup, Ne.symm h]
  | cons x m ih =>
    unfold Memory.insert
    split
    · simp [Memory.lookup, Ne.symm h]
    · split
      · rename_i e
        subst e
        simp [Memory.lookup, Ne.symm h]
      · simp [Memory.lookup, ih]

/-- Here every byte value is listed: an unlisted address has no value (log 2). -/
theorem Memory.write_eq_insert (m : Memory) (a : Word) (v : Byte) : m.write a v = m.insert a.toNat v := by
  simp [Memory.write, unlistedByte]

theorem Memory.read_eq_lookup (m : Memory) (a : Word) : m.read a = m.lookup a.toNat := by
  unfold Memory.read unlistedByte
  cases m.lookup a.toNat <;> rfl

/-- R49: a read returns the last byte written at the address. -/
@[simp] theorem Memory.read_write_same (m : Memory) (a : Word) (v : Byte) : (m.write a v).read a = some v := by
  rw [Memory.write_eq_insert, Memory.read_eq_lookup, Memory.lookup_insert_same]

/-- A write leaves every other address alone. -/
theorem Memory.read_write_other (m : Memory) {a b : Word} (v : Byte) (h : b ≠ a) :
    (m.write a v).read b = m.read b := by
  rw [Memory.write_eq_insert, Memory.read_eq_lookup, Memory.read_eq_lookup, Memory.lookup_insert_other]
  exact fun e => h (BitVec.eq_of_toNat_eq e)

theorem Memory.read_write (m : Memory) (a b : Word) (v : Byte) :
    (m.write a v).read b = if b = a then some v else m.read b := by
  split
  · next h => rw [h, Memory.read_write_same]
  · next h => exact Memory.read_write_other m v h

/-- Nothing has written an empty memory. -/
@[simp] theorem Memory.read_nil (a : Word) : Memory.read [] a = none := rfl

/-! ## The canonical form -/

theorem Memory.mem_insert {m : Memory} {a : Nat} {v : Byte} {x : Host.Cell} (h : x ∈ m.insert a v) :
    x = (a, v) ∨ x ∈ m := by
  induction m with
  | nil => simpa [Memory.insert] using h
  | cons y m ih =>
    unfold Memory.insert at h
    split at h
    · simpa using h
    · split at h
      · rcases List.mem_cons.mp h with h | h
        · exact .inl h
        · exact .inr (List.mem_cons_of_mem _ h)
      · rcases List.mem_cons.mp h with h | h
        · exact .inr (h ▸ List.mem_cons_self)
        · rcases ih h with h | h
          · exact .inl h
          · exact .inr (List.mem_cons_of_mem _ h)

theorem Memory.insert_rising {m : Memory} (a : Nat) (v : Byte) (h : m.Pairwise (fun x y => x.1 < y.1)) :
    (m.insert a v).Pairwise (fun x y => x.1 < y.1) := by
  induction m with
  | nil => simp [Memory.insert]
  | cons y m ih =>
    obtain ⟨hy, hm⟩ := List.pairwise_cons.mp h
    unfold Memory.insert
    split
    · next lt =>
      refine List.pairwise_cons.mpr ⟨fun z hz => ?_, h⟩
      rcases List.mem_cons.mp hz with rfl | hz
      · exact lt
      · exact Nat.lt_trans lt (hy z hz)
    · split
      · next e => exact List.pairwise_cons.mpr ⟨fun z hz => e ▸ hy z hz, hm⟩
      · refine List.pairwise_cons.mpr ⟨fun z hz => ?_, ih hm⟩
        rcases Memory.mem_insert hz with rfl | hz
        · show y.1 < a
          omega
        · exact hy z hz

/-- Storing a byte of a value that is listed, at an address of the space, keeps the canonical form. -/
theorem Memory.insert_wf {m : Memory} (h : m.wf) (a : Nat) (v : Byte) (ha : a < 65536) (hv : some v ≠ unlistedByte) :
    (m.insert a v).wf := by
  refine ⟨Memory.insert_rising a v h.1, fun x hx => ?_⟩
  rcases Memory.mem_insert hx with rfl | hx
  · exact ⟨ha, hv⟩
  · exact h.2 x hx

theorem Memory.erase_sublist (m : Memory) (a : Nat) : (m.erase a).Sublist m := by
  induction m with
  | nil => exact List.Sublist.refl _
  | cons x m ih =>
    unfold Memory.erase
    split
    · exact List.sublist_cons_self _ _
    · exact ih.cons_cons _

/-- Removing an entry keeps the canonical form. -/
theorem Memory.erase_wf {m : Memory} (h : m.wf) (a : Nat) : (m.erase a).wf :=
  ⟨h.1.sublist (Memory.erase_sublist m a), fun x hx => h.2 x ((Memory.erase_sublist m a).subset hx)⟩

/-- Every memory write keeps the canonical form. -/
theorem Memory.write_wf {m : Memory} (h : m.wf) (a : Word) (v : Byte) : (m.write a v).wf := by
  unfold Memory.write
  split
  · exact Memory.erase_wf h _
  · next hv => exact Memory.insert_wf h _ _ a.isLt hv

/-- The memory after reset has the canonical form. -/
theorem State.reset_mem_wf : State.reset.mem.wf := ⟨List.Pairwise.nil, by simp [State.reset]⟩

variable {s : State}

theorem State.store_mem_wf (h : s.mem.wf) (a : Word) (v : Byte) : (s.store a v).mem.wf := Memory.write_wf h a v

theorem State.storeM_mem_wf (h : s.mem.wf) (v : Byte) : (s.storeM v).mem.wf := Memory.write_wf h _ v

theorem State.push16_mem_wf (h : s.mem.wf) (w : Word) : (s.push16 w).mem.wf :=
  Memory.write_wf (Memory.write_wf h _ _) _ _

theorem State.call_mem_wf (h : s.mem.wf) (ret w : Word) : (s.call ret w).mem.wf := State.push16_mem_wf h ret

theorem State.takeVectored_mem_wf (h : s.mem.wf) (src : IntSource) (w : Word) : (s.takeVectored src w).mem.wf :=
  Memory.write_wf (Memory.write_wf h _ _) _ _

end Sys2Proof.Machine
end

