-- ==== Sys2Proof/Laws/Ops.lean ====
section
/-! SUPPORT. What each shared operation can do, said once: the memory reads, the stack, the I/O space, the branches. -/

namespace Sys2Proof.Machine

variable {s t : State}

/-! ## Memory reads -/

theorem loadByte_of_some {a : Word} {v : Byte} (h : s.mem.read a = some v) (k : Byte → Result) :
    loadByte s a k = k v := by
  unfold loadByte
  rw [h]

theorem loadByte_of_none {a : Word} (h : s.mem.read a = none) (k : Byte → Result) :
    loadByte s a k = .fault (.unwrittenRead a) := by
  unfold loadByte
  rw [h]

/-- A read goes on exactly with a byte that stands at its address. -/
theorem loadByte_eq_next {a : Word} {k : Byte → Result} :
    loadByte s a k = .next t ↔ ∃ v, s.mem.read a = some v ∧ k v = .next t := by
  cases h : s.mem.read a with
  | none => simp [loadByte_of_none h]
  | some v => simp [loadByte_of_some h]

theorem loadM_of_some {v : Byte} (h : s.mem.read s.hl = some v) (k : Byte → Result) : loadM s k = k v :=
  loadByte_of_some h k

theorem loadM_eq_next {k : Byte → Result} :
    loadM s k = .next t ↔ ∃ v, s.mem.read s.hl = some v ∧ k v = .next t := loadByte_eq_next

/-! ## The stack -/

theorem sub_one_ne_sub_two (w : Word) : w - 1 ≠ w - 2 := by bv_omega

theorem add_one_ne_self (w : Word) : w + 1 ≠ w := by bv_omega

@[simp] theorem State.push16_high (s : State) (w : Word) : (s.push16 w).mem.read (s.sp - 1) = some (highByte w) := by
  rw [State.push16_mem, Memory.read_write_other _ _ (sub_one_ne_sub_two s.sp), Memory.read_write_same]

@[simp] theorem State.push16_low (s : State) (w : Word) : (s.push16 w).mem.read (s.sp - 2) = some (lowByte w) := by
  rw [State.push16_mem, Memory.read_write_same]

theorem State.push16_other (s : State) (w : Word) {a : Word} (h1 : a ≠ s.sp - 1) (h2 : a ≠ s.sp - 2) :
    (s.push16 w).mem.read a = s.mem.read a := by
  rw [State.push16_mem, Memory.read_write_other _ _ h2, Memory.read_write_other _ _ h1]

theorem pop16_of_some {lo hi : Byte} (hlo : s.mem.read s.sp = some lo) (hhi : s.mem.read (s.sp + 1) = some hi)
    (k : Word → State → Result) : pop16 s k = k (joinBytes hi lo) (s.setSp (s.sp + 2)) := by
  rw [pop16, loadByte_of_some hlo, loadByte_of_some hhi]

/-- A pop goes on exactly when both bytes stand, low byte at SP. -/
theorem pop16_eq_next {k : Word → State → Result} :
    pop16 s k = .next t ↔ ∃ lo hi, s.mem.read s.sp = some lo ∧ s.mem.read (s.sp + 1) = some hi ∧
      k (joinBytes hi lo) (s.setSp (s.sp + 2)) = .next t := by
  simp only [pop16, loadByte_eq_next]
  constructor
  · rintro ⟨lo, hlo, hi, hhi, h⟩
    exact ⟨lo, hi, hlo, hhi, h⟩
  · rintro ⟨lo, hi, hlo, hhi, h⟩
    exact ⟨lo, hlo, hi, hhi, h⟩

/-- The return goes on with PC popped and SP raised by 2, and nothing else changed. -/
theorem returnToPopped_eq_next :
    returnToPopped s = .next t ↔ ∃ lo hi, s.mem.read s.sp = some lo ∧ s.mem.read (s.sp + 1) = some hi ∧
      t = (s.setSp (s.sp + 2)).jump (joinBytes hi lo) := by
  unfold returnToPopped
  simp only [pop16_eq_next, Host.Outcome.next.injEq, eq_comm (b := t)]

/-! ## The I/O space -/

theorem State.ioRead_scripted {v : Byte} {rest : List Byte} (h : s.portIn = v :: rest) (port : Byte) :
    s.ioRead port = (v, { s with portIn := rest }) := by
  unfold State.ioRead
  rw [h]

theorem State.ioRead_free (h : s.portIn = []) (port : Byte) : s.ioRead port = (Config.portDraw s.draws port, s.drew) := by
  unfold State.ioRead
  rw [h]

/-- A port read draws at most one free value. -/
theorem State.draws_le_ioRead (s : State) (port : Byte) : s.draws ≤ (s.ioRead port).2.draws := by
  cases h : s.portIn with
  | nil => simp [State.ioRead_free h]
  | cons v rest => simp [State.ioRead_scripted h]

/-! ## Branches -/

/-- A conditional jump always goes on, at one of two addresses. -/
theorem jumpIf_eq (cond : Cond) (dir : Word) (s : State) :
    jumpIf cond dir s = .next (s.jump (if s.flags.holds cond then dir else s.nextPc 3)) := by
  unfold jumpIf State.advance
  split <;> rfl

theorem callIf_taken {cond : Cond} (h : s.flags.holds cond = true) (dir : Word) :
    callIf cond dir s = .next (s.call (s.nextPc 3) dir) := by simp [callIf, h]

theorem callIf_untaken {cond : Cond} (h : s.flags.holds cond = false) (dir : Word) :
    callIf cond dir s = .next (s.advance 3) := by simp [callIf, h]

theorem callIf_eq_next {cond : Cond} {dir : Word} :
    callIf cond dir s = .next t ↔ (s.flags.holds cond = true ∧ t = s.call (s.nextPc 3) dir) ∨
      (s.flags.holds cond = false ∧ t = s.advance 3) := by
  cases h : s.flags.holds cond <;> simp [callIf, h, eq_comm]

theorem returnIf_taken {cond : Cond} (h : s.flags.holds cond = true) : returnIf cond s = returnToPopped s := by
  simp [returnIf, h]

theorem returnIf_untaken {cond : Cond} (h : s.flags.holds cond = false) : returnIf cond s = .next (s.advance 1) := by
  simp [returnIf, h]

theorem returnIf_eq_next {cond : Cond} :
    returnIf cond s = .next t ↔ (s.flags.holds cond = true ∧ returnToPopped s = .next t) ∨
      (s.flags.holds cond = false ∧ t = s.advance 1) := by
  cases h : s.flags.holds cond <;> simp [returnIf, h, eq_comm]

theorem rstTarget_toNat (n : BitVec 3) : (rstTarget n).toNat = n.toNat * 8 := by
  have := n.isLt
  simp [rstTarget]
  omega

end Sys2Proof.Machine
end

