-- ==== Sys2Proof/Laws/Cycle.lean ====
section
/-! SUPPORT. What a step can do, said once: every claim about steps starts from `step_eq_next`. -/

namespace Sys2Proof.Machine

variable {s t : State}

/-! ## The end of an instruction -/

@[simp] theorem endInstr_ctl (s : State) (i : Instr) :
    (s.endInstr i).ctl = { s.ctl with eiPending := s.ctl.eiPending && i.isEi } := rfl

theorem complete_eq_next {i : Instr} : complete i s = .next t ↔ ∃ u, exec i s = .next u ∧ t = u.endInstr i := by
  unfold complete
  cases exec i s <;> simp [eq_comm]

theorem complete_of_next {i : Instr} (h : exec i s = .next t) : complete i s = .next (t.endInstr i) := by
  simp [complete, h]

theorem complete_of_fault {i : Instr} {f : Fault} (h : exec i s = .fault f) : complete i s = .fault f := by
  simp [complete, h]

theorem complete_of_refused {i : Instr} {r : Refusal} (h : exec i s = .refused r) : complete i s = .refused r := by
  simp [complete, h]

/-! ## Fetch and execute -/

/-- A fetch goes on exactly when every byte of the instruction stands in memory; bytes beyond its length are passed on
as 0. -/
theorem fetchBytes_eq_next {k : Byte → Byte → Byte → Result} :
    fetchBytes s k = .next t ↔ ∃ b lo hi, s.mem.read s.pc = some b ∧ k b lo hi = .next t ∧
      (operandCount b = 0 → lo = 0 ∧ hi = 0) ∧
      (operandCount b = 1 → s.mem.read (s.pc + 1) = some lo ∧ hi = 0) ∧
      (2 ≤ operandCount b → s.mem.read (s.pc + 1) = some lo ∧ s.mem.read (s.pc + 2) = some hi) := by
  simp only [fetchBytes, loadByte_eq_next]
  refine exists_congr fun b => ?_
  rcases hn : operandCount b with _ | _ | n
  · simp only []
    constructor
    · rintro ⟨hb, hk⟩
      exact ⟨0, 0, hb, hk, by simp⟩
    · rintro ⟨lo, hi, hb, hk, h0, -, -⟩
      obtain ⟨rfl, rfl⟩ := h0 (by simp)
      exact ⟨hb, hk⟩
  · simp only [loadByte_eq_next]
    constructor
    · rintro ⟨hb, lo, hlo, hk⟩
      exact ⟨lo, 0, hb, hk, by simp, fun _ => ⟨hlo, rfl⟩, by simp⟩
    · rintro ⟨lo, hi, hb, hk, -, h1, -⟩
      obtain ⟨hlo, rfl⟩ := h1 (by simp)
      exact ⟨hb, lo, hlo, hk⟩
  · simp only [loadByte_eq_next]
    constructor
    · rintro ⟨hb, lo, hlo, hi, hhi, hk⟩
      exact ⟨lo, hi, hb, hk, by simp, by simp, fun _ => ⟨hlo, hhi⟩⟩
    · rintro ⟨lo, hi, hb, hk, -, -, h2⟩
      obtain ⟨hlo, hhi⟩ := h2 (by omega)
      exact ⟨hb, lo, hlo, hi, hhi, hk⟩

theorem runBytes_eq_next {b lo hi : Byte} {prepare : Instr → State} :
    runBytes b lo hi prepare = .next t ↔
      ∃ i u, decodeBytes b lo hi = some i ∧ exec i (prepare i) = .next u ∧ t = u.endInstr i := by
  unfold runBytes
  cases decodeBytes b lo hi with
  | none => simp
  | some i => simp [complete_eq_next]

/-! ## Interrupts -/

/-- No request is accepted under INTERRUPT_MODEL = none (R253). -/
theorem accepted_none_model (h : s.params.interruptModel = .none) : s.accepted = none := by simp [State.accepted, h]

/-- No request is accepted before the first instruction after a reset (R245, R281). -/
theorem accepted_firstFetch (h : s.firstFetch = true) : s.accepted = none := by
  unfold State.accepted
  split <;> simp [h]

/-- A source is accepted only at the end of an instruction. -/
theorem firstFetch_of_accepted {src : IntSource} (h : s.accepted = some src) : s.firstFetch = false := by
  cases hf : s.firstFetch with
  | false => rfl
  | true => simp [accepted_firstFetch hf] at h

/-- Nothing is accepted in the first step after a reset, whatever the environment does (R281). -/
theorem takeReset_sample_accepted (s : State) : s.takeReset.sample.accepted = none := accepted_firstFetch (by simp)

/-- An accepted source is one that can be accepted, under `i8085`. -/
theorem acceptable_of_accepted {src : IntSource} (h : s.accepted = some src) :
    s.params.interruptModel = .i8085 ∧ s.acceptable src = true := by
  unfold State.accepted at h
  split at h
  · cases h
  · next hm =>
    split at h
    · cases h
    · exact ⟨hm, List.find?_some h⟩

theorem takeInterrupt_vectored {src : IntSource} {target : Word} (h : src.vector = some target) :
    takeInterrupt s src = .next (s.takeVectored src target) := by simp [takeInterrupt, h]

/-- The fields an interrupt entry writes (R246, R247, R250). -/
theorem acknowledge_eq (c : Ctl) (src : IntSource) : c.acknowledge src = { c with
    ie := false
    eiPending := false
    halted := false
    i75 := c.i75 && decide (src ≠ .rst75)
    trapLatch := c.trapLatch && decide (src ≠ .trap)
    trapSeen := c.trapSeen || decide (src = .trap)
    trapIe := if src = .trap then c.ie else c.trapIe } := by
  cases src <;> simp [Ctl.acknowledge]

@[simp] theorem acknowledge_ie (c : Ctl) (src : IntSource) : (c.acknowledge src).ie = false := by cases src <;> rfl
@[simp] theorem acknowledge_eiPending (c : Ctl) (src : IntSource) : (c.acknowledge src).eiPending = false := by
  cases src <;> rfl
@[simp] theorem acknowledge_halted (c : Ctl) (src : IntSource) : (c.acknowledge src).halted = false := by
  cases src <;> rfl

/-! ## RIM -/

/-- The fields RIM writes (R230, R26): both of a TRAP entry's record are 0 after the first RIM. -/
theorem rimClear_eq (c : Ctl) : c.rimClear = { c with
    trapSeen := false
    trapIe := !c.trapSeen && c.trapIe } := by
  cases c with
  | mk _ _ _ _ _ _ _ _ trapSeen _ _ => cases trapSeen <;> rfl

@[simp] theorem rimClear_ie (c : Ctl) : c.rimClear.ie = c.ie := by rw [rimClear_eq]
@[simp] theorem rimClear_eiPending (c : Ctl) : c.rimClear.eiPending = c.eiPending := by rw [rimClear_eq]
@[simp] theorem rimClear_halted (c : Ctl) : c.rimClear.halted = c.halted := by rw [rimClear_eq]
@[simp] theorem rimClear_trapSeen (c : Ctl) : c.rimClear.trapSeen = false := by rw [rimClear_eq]
@[simp] theorem rimClear_trapIe (c : Ctl) : c.rimClear.trapIe = (!c.trapSeen && c.trapIe) := by rw [rimClear_eq]

/-! ## Sampling -/

/-- Sampling keeps every control field but the two latches, and never clears a latch. -/
theorem sample_ctl (s : State) : ∃ i75 trapLatch, s.sample.ctl = { s.ctl with i75 := i75, trapLatch := trapLatch } ∧
    (s.ctl.i75 = true → i75 = true) ∧ (s.ctl.trapLatch = true → trapLatch = true) := by
  unfold State.sample
  split
  · exact ⟨_, _, rfl, id, id⟩
  · next e rest _ =>
    exact ⟨_, _, rfl, fun h => by simp [h], fun h => by simp [h]⟩

@[simp] theorem sample_ie (s : State) : s.sample.ctl.ie = s.ctl.ie := by
  unfold State.sample
  split <;> rfl

@[simp] theorem sample_eiPending (s : State) : s.sample.ctl.eiPending = s.ctl.eiPending := by
  unfold State.sample
  split <;> rfl

@[simp] theorem sample_halted (s : State) : s.sample.ctl.halted = s.ctl.halted := by
  unfold State.sample
  split <;> rfl

/-! ## The step -/

/-- Every step that goes on is one of five: a reset; a vectored interrupt entry; the execution of the instruction an INTR
device supplies; the wait of a halted processor under `i8085`; or the execution of the instruction fetched at pc. -/
theorem step_eq_next (h : step s = .next t) :
    (s.resetAsserted = true ∧ t = s.sample.takeReset) ∨
    (s.resetAsserted = false ∧ ∃ src target, s.sample.accepted = some src ∧ src.vector = some target ∧
      t = s.sample.takeVectored src target) ∨
    (s.resetAsserted = false ∧ s.sample.accepted = some .intr ∧ ∃ i u,
      decodeBytes s.sample.lines.ack0 s.sample.lines.ack1 s.sample.lines.ack2 = some i ∧
      exec i ((s.sample.setCtl (s.sample.ctl.acknowledge .intr)).jump (s.sample.pc - BitVec.ofNat 16 i.length)) =
        .next u ∧ t = u.endInstr i) ∨
    (s.resetAsserted = false ∧ s.sample.accepted = none ∧ s.ctl.halted = true ∧
      s.params.interruptModel = .i8085 ∧ t = s.sample) ∨
    (s.resetAsserted = false ∧ s.sample.accepted = none ∧ s.ctl.halted = false ∧ ∃ b lo hi i u,
      s.mem.read s.pc = some b ∧ decodeBytes b lo hi = some i ∧ exec i s.sample = .next u ∧ t = u.endInstr i) := by
  unfold step stepOnce at h
  split at h
  · next hr => exact .inl ⟨hr, by simpa using h.symm⟩
  · next hr =>
    simp only [Bool.not_eq_true] at hr
    refine .inr ?_
    unfold cycle at h
    split at h
    · next src hsrc =>
      unfold takeInterrupt at h
      split at h
      · next target ht => exact .inl ⟨hr, src, target, hsrc, ht, by simpa using h.symm⟩
      · next hv =>
        obtain rfl : src = .intr := by cases src <;> first | rfl | simp [IntSource.vector] at hv
        unfold takeIntr at h
        obtain ⟨i, u, hd, hu, ht⟩ := runBytes_eq_next.mp h
        exact .inr (.inl ⟨hr, hsrc, i, u, hd, hu, ht⟩)
    · next hnone =>
      refine .inr (.inr ?_)
      split at h
      · next hh =>
        unfold haltedStep at h
        split at h
        · cases h
        · next hm => exact .inl ⟨hr, hnone, by simpa using hh, by simpa using hm, by simpa using h.symm⟩
      · next hh =>
        obtain ⟨b, lo, hi, hb, hk, -⟩ := fetchBytes_eq_next.mp h
        obtain ⟨i, u, hd, hu, ht⟩ := runBytes_eq_next.mp hk
        exact .inr ⟨hr, hnone, by simpa using hh, b, lo, hi, i, u, by simpa using hb, hd, hu, ht⟩

end Sys2Proof.Machine
end

