-- ==== Sys2Proof/Laws/Decode.lean ====
section
/-! SUPPORT. The fields of a first byte, and what the row of a first byte is. -/

namespace Sys2Proof

/-- A decoded DDD field, put back, gives bits 5 to 3 of the byte. -/
theorem dstBits_of_dstReg {b : Byte} {r : Reg} (h : dstReg b = some r) : dstBits r = b &&& 0x38#8 := by
  have all : ∀ b : Byte, ((dstReg b).all fun r => dstBits r == b &&& 0x38#8) = true := by decide +kernel
  simpa [h] using all b

/-- A decoded SSS field, put back, gives bits 2 to 0 of the byte. -/
theorem srcBits_of_srcReg {b : Byte} {r : Reg} (h : srcReg b = some r) : srcBits r = b &&& 0x07#8 := by
  have all : ∀ b : Byte, ((srcReg b).all fun r => srcBits r == b &&& 0x07#8) = true := by decide +kernel
  simpa [h] using all b

/-- A decoded rp field, put back, gives bits 5 and 4 of the byte. -/
theorem pairBits_pairField (b : Byte) : pairBits (pairField b) = b &&& 0x30#8 := by
  revert b
  decide +kernel

@[simp] theorem reg_ofCode_code (r : Reg) : Reg.ofCode r.code = some r := by cases r <;> rfl

@[simp] theorem pair_ofCode_code (pair : Pair) : Pair.ofCode pair.code = pair := by cases pair <;> rfl

/-- The row of a first byte is a row of the table, and the byte fits it. -/
theorem rowOf_eq_some {b : Byte} {row : OpRow} (h : rowOf b = some row) :
    row ∈ opcodeTable ∧ b &&& row.mask = row.pattern :=
  ⟨List.mem_of_find?_eq_some h, by simpa using List.find?_some h⟩

/-- At most two operand bytes follow a first byte (R68). -/
theorem operandCount_le_two (b : Byte) : operandCount b ≤ 2 := by
  revert b
  decide +kernel

/-- A byte in which the bits outside a mask are put back onto the pattern the mask leaves. -/
theorem or_and_not_of_and_eq {b mask pattern : Byte} (h : b &&& mask = pattern) : pattern ||| (b &&& ~~~mask) = b := by
  subst h
  apply BitVec.eq_of_getLsbD_eq
  intro k hk
  simp only [BitVec.getLsbD_or, BitVec.getLsbD_and, BitVec.getLsbD_not, hk, decide_true, Bool.true_and]
  cases b.getLsbD k <;> cases mask.getLsbD k <;> rfl

end Sys2Proof
end

