-- ==== Sys2Proof/Laws/Flags.lean ====
section
/-! SUPPORT. What each flag computation answers, as the arithmetic of 00_scope.md R7 and R8 says it. -/

namespace Sys2Proof.Machine

/-! ## Results -/

theorem add8_res_toNat (a b : Byte) (cin : Bool) : (add8 a b cin).res.toNat = (a.toNat + b.toNat + cin.toNat) % 256 := by
  simp [add8]

theorem add8_cy_iff (a b : Byte) (cin : Bool) : (add8 a b cin).cy = true ↔ 256 ≤ a.toNat + b.toNat + cin.toNat := by
  simp [add8]

theorem add8_ac_iff (a b : Byte) (cin : Bool) :
    (add8 a b cin).ac = true ↔ 16 ≤ a.toNat % 16 + b.toNat % 16 + cin.toNat := by
  simp [add8]

theorem sub8_res_toNat (m : AcSub) (a b : Byte) (bin : Bool) :
    ((sub8 m a b bin).res.toNat : Int) = ((a.toNat : Int) - b.toNat - bin.toNat) % 256 := by
  simp [sub8]
  omega

theorem sub8_cy_iff (m : AcSub) (a b : Byte) (bin : Bool) :
    (sub8 m a b bin).cy = true ↔ a.toNat < b.toNat + bin.toNat := by
  simp [sub8]

theorem sub8_ac_carry_iff (a b : Byte) (bin : Bool) :
    (sub8 .carry a b bin).ac = true ↔ ¬ a.toNat % 16 < b.toNat % 16 + bin.toNat := by
  have := Bool.toNat_le bin
  simp [sub8, subAc]
  omega

theorem sub8_ac_borrow_iff (a b : Byte) (bin : Bool) :
    (sub8 .borrow a b bin).ac = true ↔ a.toNat % 16 < b.toNat % 16 + bin.toNat := by
  simp [sub8, subAc]

theorem add16_fst_toNat (v w : Word) : (add16 v w).1.toNat = (v.toNat + w.toNat) % 65536 := by simp [add16]

theorem add16_snd (v w : Word) : (add16 v w).2 = decide (65536 ≤ v.toNat + w.toNat) := rfl

/-! ## S, Z and P -/

/-- Bit 7 of a byte says whether it is at least 128. -/
theorem getLsbD_seven_iff (v : Byte) : v.getLsbD 7 = true ↔ 128 ≤ v.toNat := by
  have h := v.isLt
  rw [BitVec.getLsbD, Nat.testBit_eq_decide_div_mod_eq, decide_eq_true_iff]
  omega

theorem beq_zero_iff (v : Byte) : (v == 0x00#8) = true ↔ v.toNat = 0 := by
  rw [beq_iff_eq, ← BitVec.toNat_inj]
  rfl

/-- Parity is even exactly when the number of 1 bits is. -/
theorem parityEven_iff (v : Byte) :
    parityEven v = true ↔ (List.range 8).countP (fun k => v.getLsbD k) % 2 = 0 := by
  simp only [parityEven, show List.range 8 = [0, 1, 2, 3, 4, 5, 6, 7] from rfl, List.countP_cons, List.countP_nil]
  generalize v.getLsbD 0 = b0
  generalize v.getLsbD 1 = b1
  generalize v.getLsbD 2 = b2
  generalize v.getLsbD 3 = b3
  generalize v.getLsbD 4 = b4
  generalize v.getLsbD 5 = b5
  generalize v.getLsbD 6 = b6
  generalize v.getLsbD 7 = b7
  revert b0 b1 b2 b3 b4 b5 b6 b7
  decide

@[simp] theorem Flags.szp_ac (f : Flags) (v : Byte) : (f.szp v).ac = f.ac := rfl
@[simp] theorem Flags.szp_cy (f : Flags) (v : Byte) : (f.szp v).cy = f.cy := rfl
@[simp] theorem Flags.szp_s (f : Flags) (v : Byte) : (f.szp v).s = v.getLsbD 7 := rfl
@[simp] theorem Flags.szp_z (f : Flags) (v : Byte) : (f.szp v).z = (v == 0x00#8) := rfl
@[simp] theorem Flags.szp_p (f : Flags) (v : Byte) : (f.szp v).p = parityEven v := by simp only [Flags.szp]

@[simp] theorem Flags.ofAlu_s (f : Flags) (o : AluOut) : (f.ofAlu o).s = o.res.getLsbD 7 := by simp only [Flags.ofAlu, Flags.szp]
@[simp] theorem Flags.ofAlu_z (f : Flags) (o : AluOut) : (f.ofAlu o).z = (o.res == 0x00#8) := by simp only [Flags.ofAlu, Flags.szp]
@[simp] theorem Flags.ofAlu_p (f : Flags) (o : AluOut) : (f.ofAlu o).p = parityEven o.res := by simp only [Flags.ofAlu, Flags.szp]
@[simp] theorem Flags.ofAlu_ac (f : Flags) (o : AluOut) : (f.ofAlu o).ac = o.ac := by simp only [Flags.ofAlu, Flags.szp]
@[simp] theorem Flags.ofAlu_cy (f : Flags) (o : AluOut) : (f.ofAlu o).cy = o.cy := by simp only [Flags.ofAlu, Flags.szp]
@[simp] theorem Flags.ofIncDec_s (f : Flags) (o : AluOut) : (f.ofIncDec o).s = o.res.getLsbD 7 := by simp only [Flags.ofIncDec, Flags.szp]
@[simp] theorem Flags.ofIncDec_z (f : Flags) (o : AluOut) : (f.ofIncDec o).z = (o.res == 0x00#8) := by simp only [Flags.ofIncDec, Flags.szp]
@[simp] theorem Flags.ofIncDec_p (f : Flags) (o : AluOut) : (f.ofIncDec o).p = parityEven o.res := by simp only [Flags.ofIncDec, Flags.szp]
@[simp] theorem Flags.ofIncDec_ac (f : Flags) (o : AluOut) : (f.ofIncDec o).ac = o.ac := by simp only [Flags.ofIncDec, Flags.szp]
@[simp] theorem Flags.ofIncDec_cy (f : Flags) (o : AluOut) : (f.ofIncDec o).cy = f.cy := by simp only [Flags.ofIncDec, Flags.szp]
@[simp] theorem Flags.ofLogic_s (f : Flags) (m : LogicAc) (op : LogicOp) (v : Byte) : (f.ofLogic m op v).s = v.getLsbD 7 := by simp only [Flags.ofLogic, Flags.szp]
@[simp] theorem Flags.ofLogic_z (f : Flags) (m : LogicAc) (op : LogicOp) (v : Byte) : (f.ofLogic m op v).z = (v == 0x00#8) := by simp only [Flags.ofLogic, Flags.szp]
@[simp] theorem Flags.ofLogic_p (f : Flags) (m : LogicAc) (op : LogicOp) (v : Byte) : (f.ofLogic m op v).p = parityEven v := by simp only [Flags.ofLogic, Flags.szp]
@[simp] theorem Flags.ofLogic_ac (f : Flags) (m : LogicAc) (op : LogicOp) (v : Byte) : (f.ofLogic m op v).ac = logicAcBit m op := by simp only [Flags.ofLogic, Flags.szp]
@[simp] theorem Flags.ofLogic_cy (f : Flags) (m : LogicAc) (op : LogicOp) (v : Byte) : (f.ofLogic m op v).cy = false := by simp only [Flags.ofLogic, Flags.szp]

/-! ## Rotates -/

theorem shiftInLow_toNat (v : Byte) (low : Bool) : (shiftInLow v low).toNat = v.toNat * 2 % 256 + low.toNat := by
  rw [shiftInLow, BitVec.toNat_append, ← Nat.shiftLeft_add_eq_or_of_lt (BitVec.ofBool low).isLt, Nat.shiftLeft_eq]
  cases low <;> simp <;> omega

theorem shiftInHigh_toNat (v : Byte) (high : Bool) : (shiftInHigh v high).toNat = v.toNat / 2 + high.toNat * 128 := by
  have h := v.isLt
  rw [shiftInHigh, BitVec.toNat_append, ← Nat.shiftLeft_add_eq_or_of_lt (v.extractLsb' 1 7).isLt, Nat.shiftLeft_eq]
  cases high <;> simp [Nat.shiftRight_eq_div_pow] <;> omega

/-- Bit 0 of a byte says whether it is odd. -/
theorem getLsbD_zero_iff (v : Byte) : v.getLsbD 0 = true ↔ v.toNat % 2 = 1 := by
  rw [BitVec.getLsbD, Nat.testBit_eq_decide_div_mod_eq, decide_eq_true_iff]
  omega

/-! ## The flag byte -/

/-- POP PSW loads what PUSH PSW stored, whatever the spare bits were. -/
@[simp] theorem Flags.ofByte_toByte (f : Flags) (spare : BitVec 3) : Flags.ofByte (f.toByte spare) = f := by
  obtain ⟨s, z, ac, p, cy⟩ := f
  simp only [Flags.ofByte, Flags.toByte]
  generalize spare.getLsbD 2 = k5
  generalize spare.getLsbD 1 = k3
  generalize spare.getLsbD 0 = k1
  revert s z ac p cy k5 k3 k1
  decide

theorem packBits_getLsbD (b7 b6 b5 b4 b3 b2 b1 b0 : Bool) :
    (packBits b7 b6 b5 b4 b3 b2 b1 b0).getLsbD 7 = b7 ∧ (packBits b7 b6 b5 b4 b3 b2 b1 b0).getLsbD 6 = b6 ∧
    (packBits b7 b6 b5 b4 b3 b2 b1 b0).getLsbD 5 = b5 ∧ (packBits b7 b6 b5 b4 b3 b2 b1 b0).getLsbD 4 = b4 ∧
    (packBits b7 b6 b5 b4 b3 b2 b1 b0).getLsbD 3 = b3 ∧ (packBits b7 b6 b5 b4 b3 b2 b1 b0).getLsbD 2 = b2 ∧
    (packBits b7 b6 b5 b4 b3 b2 b1 b0).getLsbD 1 = b1 ∧ (packBits b7 b6 b5 b4 b3 b2 b1 b0).getLsbD 0 = b0 := by
  revert b7 b6 b5 b4 b3 b2 b1 b0
  decide

end Sys2Proof.Machine
end

