-- ==== Sys2Proof/Laws/PerInstr.lean ====
section
/-! SUPPORT. One statement per instruction: the encoding has the instruction's length in bytes (30_encoding.md R62, R68). -/

namespace Sys2Proof.Laws

/-- The encoding of the instruction is as long as R62 says its form is. -/
def EncodedLength.Statement (i : Instr) : Prop := (encode i).length = i.length

theorem EncodedLength.movRR (dst : Reg) (src : Reg) : EncodedLength.Statement (.movRR dst src) := rfl
theorem EncodedLength.movRM (dst : Reg) : EncodedLength.Statement (.movRM dst) := rfl
theorem EncodedLength.movMR (src : Reg) : EncodedLength.Statement (.movMR src) := rfl
theorem EncodedLength.mviR (dst : Reg) (v : Byte) : EncodedLength.Statement (.mviR dst v) := rfl
theorem EncodedLength.mviM (v : Byte) : EncodedLength.Statement (.mviM v) := rfl
theorem EncodedLength.lxi (pair : Pair) (w : Word) : EncodedLength.Statement (.lxi pair w) := rfl
theorem EncodedLength.lda (dir : Word) : EncodedLength.Statement (.lda dir) := rfl
theorem EncodedLength.sta (dir : Word) : EncodedLength.Statement (.sta dir) := rfl
theorem EncodedLength.lhld (dir : Word) : EncodedLength.Statement (.lhld dir) := rfl
theorem EncodedLength.shld (dir : Word) : EncodedLength.Statement (.shld dir) := rfl
theorem EncodedLength.ldax (pair : Pair) : EncodedLength.Statement (.ldax pair) := rfl
theorem EncodedLength.stax (pair : Pair) : EncodedLength.Statement (.stax pair) := rfl
theorem EncodedLength.xchg : EncodedLength.Statement (.xchg) := rfl
theorem EncodedLength.addR (r : Reg) : EncodedLength.Statement (.addR r) := rfl
theorem EncodedLength.addM : EncodedLength.Statement (.addM) := rfl
theorem EncodedLength.adi (v : Byte) : EncodedLength.Statement (.adi v) := rfl
theorem EncodedLength.adcR (r : Reg) : EncodedLength.Statement (.adcR r) := rfl
theorem EncodedLength.adcM : EncodedLength.Statement (.adcM) := rfl
theorem EncodedLength.aci (v : Byte) : EncodedLength.Statement (.aci v) := rfl
theorem EncodedLength.subR (r : Reg) : EncodedLength.Statement (.subR r) := rfl
theorem EncodedLength.subM : EncodedLength.Statement (.subM) := rfl
theorem EncodedLength.sui (v : Byte) : EncodedLength.Statement (.sui v) := rfl
theorem EncodedLength.sbbR (r : Reg) : EncodedLength.Statement (.sbbR r) := rfl
theorem EncodedLength.sbbM : EncodedLength.Statement (.sbbM) := rfl
theorem EncodedLength.sbi (v : Byte) : EncodedLength.Statement (.sbi v) := rfl
theorem EncodedLength.inrR (r : Reg) : EncodedLength.Statement (.inrR r) := rfl
theorem EncodedLength.inrM : EncodedLength.Statement (.inrM) := rfl
theorem EncodedLength.dcrR (r : Reg) : EncodedLength.Statement (.dcrR r) := rfl
theorem EncodedLength.dcrM : EncodedLength.Statement (.dcrM) := rfl
theorem EncodedLength.inx (pair : Pair) : EncodedLength.Statement (.inx pair) := rfl
theorem EncodedLength.dcx (pair : Pair) : EncodedLength.Statement (.dcx pair) := rfl
theorem EncodedLength.dad (pair : Pair) : EncodedLength.Statement (.dad pair) := rfl
theorem EncodedLength.daa : EncodedLength.Statement (.daa) := rfl
theorem EncodedLength.cmpR (r : Reg) : EncodedLength.Statement (.cmpR r) := rfl
theorem EncodedLength.cmpM : EncodedLength.Statement (.cmpM) := rfl
theorem EncodedLength.cpi (v : Byte) : EncodedLength.Statement (.cpi v) := rfl
theorem EncodedLength.anaR (r : Reg) : EncodedLength.Statement (.anaR r) := rfl
theorem EncodedLength.anaM : EncodedLength.Statement (.anaM) := rfl
theorem EncodedLength.ani (v : Byte) : EncodedLength.Statement (.ani v) := rfl
theorem EncodedLength.xraR (r : Reg) : EncodedLength.Statement (.xraR r) := rfl
theorem EncodedLength.xraM : EncodedLength.Statement (.xraM) := rfl
theorem EncodedLength.xri (v : Byte) : EncodedLength.Statement (.xri v) := rfl
theorem EncodedLength.oraR (r : Reg) : EncodedLength.Statement (.oraR r) := rfl
theorem EncodedLength.oraM : EncodedLength.Statement (.oraM) := rfl
theorem EncodedLength.ori (v : Byte) : EncodedLength.Statement (.ori v) := rfl
theorem EncodedLength.cma : EncodedLength.Statement (.cma) := rfl
theorem EncodedLength.rlc : EncodedLength.Statement (.rlc) := rfl
theorem EncodedLength.rrc : EncodedLength.Statement (.rrc) := rfl
theorem EncodedLength.ral : EncodedLength.Statement (.ral) := rfl
theorem EncodedLength.rar : EncodedLength.Statement (.rar) := rfl
theorem EncodedLength.cmc : EncodedLength.Statement (.cmc) := rfl
theorem EncodedLength.stc : EncodedLength.Statement (.stc) := rfl
theorem EncodedLength.jmp (dir : Word) : EncodedLength.Statement (.jmp dir) := rfl
theorem EncodedLength.jnz (dir : Word) : EncodedLength.Statement (.jnz dir) := rfl
theorem EncodedLength.jz (dir : Word) : EncodedLength.Statement (.jz dir) := rfl
theorem EncodedLength.jnc (dir : Word) : EncodedLength.Statement (.jnc dir) := rfl
theorem EncodedLength.jc (dir : Word) : EncodedLength.Statement (.jc dir) := rfl
theorem EncodedLength.jpo (dir : Word) : EncodedLength.Statement (.jpo dir) := rfl
theorem EncodedLength.jpe (dir : Word) : EncodedLength.Statement (.jpe dir) := rfl
theorem EncodedLength.jp (dir : Word) : EncodedLength.Statement (.jp dir) := rfl
theorem EncodedLength.jm (dir : Word) : EncodedLength.Statement (.jm dir) := rfl
theorem EncodedLength.call (dir : Word) : EncodedLength.Statement (.call dir) := rfl
theorem EncodedLength.cnz (dir : Word) : EncodedLength.Statement (.cnz dir) := rfl
theorem EncodedLength.cz (dir : Word) : EncodedLength.Statement (.cz dir) := rfl
theorem EncodedLength.cnc (dir : Word) : EncodedLength.Statement (.cnc dir) := rfl
theorem EncodedLength.cc (dir : Word) : EncodedLength.Statement (.cc dir) := rfl
theorem EncodedLength.cpo (dir : Word) : EncodedLength.Statement (.cpo dir) := rfl
theorem EncodedLength.cpe (dir : Word) : EncodedLength.Statement (.cpe dir) := rfl
theorem EncodedLength.cp (dir : Word) : EncodedLength.Statement (.cp dir) := rfl
theorem EncodedLength.cm (dir : Word) : EncodedLength.Statement (.cm dir) := rfl
theorem EncodedLength.ret : EncodedLength.Statement (.ret) := rfl
theorem EncodedLength.rnz : EncodedLength.Statement (.rnz) := rfl
theorem EncodedLength.rz : EncodedLength.Statement (.rz) := rfl
theorem EncodedLength.rnc : EncodedLength.Statement (.rnc) := rfl
theorem EncodedLength.rc : EncodedLength.Statement (.rc) := rfl
theorem EncodedLength.rpo : EncodedLength.Statement (.rpo) := rfl
theorem EncodedLength.rpe : EncodedLength.Statement (.rpe) := rfl
theorem EncodedLength.rp : EncodedLength.Statement (.rp) := rfl
theorem EncodedLength.rm : EncodedLength.Statement (.rm) := rfl
theorem EncodedLength.rst (n : BitVec 3) : EncodedLength.Statement (.rst n) := rfl
theorem EncodedLength.pchl : EncodedLength.Statement (.pchl) := rfl
theorem EncodedLength.pushRp (pair : Pair) : EncodedLength.Statement (.pushRp pair) := rfl
theorem EncodedLength.pushPsw : EncodedLength.Statement (.pushPsw) := rfl
theorem EncodedLength.popRp (pair : Pair) : EncodedLength.Statement (.popRp pair) := rfl
theorem EncodedLength.popPsw : EncodedLength.Statement (.popPsw) := rfl
theorem EncodedLength.xthl : EncodedLength.Statement (.xthl) := rfl
theorem EncodedLength.sphl : EncodedLength.Statement (.sphl) := rfl
theorem EncodedLength.inPort (port : Byte) : EncodedLength.Statement (.inPort port) := rfl
theorem EncodedLength.outPort (port : Byte) : EncodedLength.Statement (.outPort port) := rfl
theorem EncodedLength.ei : EncodedLength.Statement (.ei) := rfl
theorem EncodedLength.di : EncodedLength.Statement (.di) := rfl
theorem EncodedLength.nop : EncodedLength.Statement (.nop) := rfl
theorem EncodedLength.hlt : EncodedLength.Statement (.hlt) := rfl
theorem EncodedLength.rim : EncodedLength.Statement (.rim) := rfl
theorem EncodedLength.sim : EncodedLength.Statement (.sim) := rfl
theorem EncodedLength.unassigned08 : EncodedLength.Statement (.unassigned08) := rfl
theorem EncodedLength.unassigned10 : EncodedLength.Statement (.unassigned10) := rfl
theorem EncodedLength.unassigned18 : EncodedLength.Statement (.unassigned18) := rfl
theorem EncodedLength.unassigned28 : EncodedLength.Statement (.unassigned28) := rfl
theorem EncodedLength.unassigned38 : EncodedLength.Statement (.unassigned38) := rfl
theorem EncodedLength.unassignedCB : EncodedLength.Statement (.unassignedCB) := rfl
theorem EncodedLength.unassignedD9 : EncodedLength.Statement (.unassignedD9) := rfl
theorem EncodedLength.unassignedDD : EncodedLength.Statement (.unassignedDD) := rfl
theorem EncodedLength.unassignedED : EncodedLength.Statement (.unassignedED) := rfl
theorem EncodedLength.unassignedFD : EncodedLength.Statement (.unassignedFD) := rfl

end Sys2Proof.Laws
end

