-- ==== Sys2Proof/Tests/Slice0.lean ====
section
/-! SUPPORT. Tests. Every expected value is from the spec: the vectors of 95_test_vectors.md (named T1, A1, ... as there),
the opcode table of 30_encoding.md, or a calculation by hand from the rule named. The witnesses at the end show states and
operands that meet the hypotheses of each obligation. -/

namespace Sys2Proof.Tests

open Sys2Proof.Machine

/-- The flags in the order the vectors write them: S Z AC P CY. -/
def fl (s z ac p cy : Nat) : Flags := ⟨s == 1, z == 1, ac == 1, p == 1, cy == 1⟩

/-- A state at pc 0100h with the given A, BC, DE, HL, SP and flags, in the middle of a run, otherwise as after reset. -/
def st (a bc de hl sp : Nat) (f : Flags) : State :=
  { State.reset with
    regs := ⟨BitVec.ofNat 8 (bc / 256), BitVec.ofNat 8 bc, BitVec.ofNat 8 (de / 256), BitVec.ofNat 8 de,
      BitVec.ofNat 8 (hl / 256), BitVec.ofNat 8 hl, BitVec.ofNat 8 a⟩
    flags := f
    sp := BitVec.ofNat 16 sp
    pc := 0x0100#16
    firstFetch := false }

/-- The state with another pc. -/
def atPc (s : State) (pc : Word) : State := { s with pc := pc }

/-- The state with other parameters. -/
def withParams (s : State) (p : Params) : State := { s with params := p }

/-- The state with another control state. -/
def withCtl (s : State) (c : Ctl) : State := { s with ctl := c }

/-- DAA_FLAGS, LOGIC_AC, AC_SUB and INTERRUPT_MODEL at their other values. -/
def other : Params := ⟨.intel, .intel, .borrow, .i8085, .one⟩

/-- Store bytes from an address on. -/
def pokes (s : State) : Word → List Byte → State
  | _, [] => s
  | a, v :: rest => pokes (s.store a v) (a + 1) rest

/-- One step with an instruction's bytes at pc. -/
def go (s : State) (bytes : List Byte) : Result := step (pokes s s.pc bytes)

/-- Something of the next state; none where there is none. -/
def obs {α : Type} (r : Result) (f : State → α) : Option α :=
  match r with
  | .next t => some (f t)
  | .fault _ => none
  | .refused _ => none

/-- Does the result refuse the byte as unassigned? -/
def refuses (r : Result) (b : Byte) : Bool :=
  match r with
  | .refused (.unassignedOpcode v) => v == b
  | _ => false

/-- Does the result fault on the unwritten byte? -/
def faultsAt (r : Result) (a : Word) : Bool :=
  match r with
  | .fault (.unwrittenRead v) => v == a
  | _ => false

/-- Two steps. -/
def go2 (s : State) (bytes : List Byte) : Result :=
  match go s bytes with
  | .next t => step t
  | r => r

/-! ## WellFormed refuses what no encoding stands for (R64, R72) -/

theorem test_ldax_hl_ill_formed : (Instr.ldax .hl).wellFormed = false := by decide
theorem test_ldax_sp_ill_formed : (Instr.ldax .sp).wellFormed = false := by decide
theorem test_stax_hl_ill_formed : (Instr.stax .hl).wellFormed = false := by decide
theorem test_stax_sp_ill_formed : (Instr.stax .sp).wellFormed = false := by decide
theorem test_push_sp_ill_formed : (Instr.pushRp .sp).wellFormed = false := by decide
theorem test_pop_sp_ill_formed : (Instr.popRp .sp).wellFormed = false := by decide
theorem test_ldax_de_well_formed : (Instr.ldax .de).wellFormed = true := by decide

/-! ## Decoding: the bits written out from the spec's encoding of each instruction -/

/-- Encodings of 40_transfer.md. -/
theorem test_decode_transfer :
    decode [0b01000111#8] = .ok (.movRR .b .a, []) ∧
    decode [0b01011110#8] = .ok (.movRM .e, []) ∧
    decode [0b01110100#8] = .ok (.movMR .h, []) ∧
    decode [0b00001110#8, 0x7F#8] = .ok (.mviR .c 0x7F#8, []) ∧
    decode [0b00110110#8, 0xFF#8] = .ok (.mviM 0xFF#8, []) ∧
    decode [0b00110001#8, 0x34#8, 0x12#8] = .ok (.lxi .sp 0x1234#16, []) ∧
    decode [0b00111010#8, 0xFE#8, 0xCA#8] = .ok (.lda 0xCAFE#16, []) ∧
    decode [0b00110010#8, 0x00#8, 0x20#8] = .ok (.sta 0x2000#16, []) ∧
    decode [0b00101010#8, 0xFF#8, 0xFF#8] = .ok (.lhld 0xFFFF#16, []) ∧
    decode [0b00100010#8, 0x00#8, 0x20#8] = .ok (.shld 0x2000#16, []) ∧
    decode [0b00011010#8] = .ok (.ldax .de, []) ∧
    decode [0b00000010#8] = .ok (.stax .bc, []) ∧
    decode [0b11101011#8] = .ok (.xchg, []) := by
  refine ⟨?_, ?_, ?_, ?_, ?_, ?_, ?_, ?_, ?_, ?_, ?_, ?_, ?_⟩ <;> rfl

/-- Encodings of 41_arithmetic.md. -/
theorem test_decode_arithmetic :
    decode [0b10000000#8] = .ok (.addR .b, []) ∧
    decode [0b10000110#8] = .ok (.addM, []) ∧
    decode [0b11000110#8, 0x42#8] = .ok (.adi 0x42#8, []) ∧
    decode [0b10001001#8] = .ok (.adcR .c, []) ∧
    decode [0b10001110#8] = .ok (.adcM, []) ∧
    decode [0b11001110#8, 0x57#8] = .ok (.aci 0x57#8, []) ∧
    decode [0b10010111#8] = .ok (.subR .a, []) ∧
    decode [0b10010110#8] = .ok (.subM, []) ∧
    decode [0b11010110#8, 0x01#8] = .ok (.sui 0x01#8, []) ∧
    decode [0b10011001#8] = .ok (.sbbR .c, []) ∧
    decode [0b10011110#8] = .ok (.sbbM, []) ∧
    decode [0b11011110#8, 0xFF#8] = .ok (.sbi 0xFF#8, []) ∧
    decode [0b00000100#8] = .ok (.inrR .b, []) ∧
    decode [0b00110100#8] = .ok (.inrM, []) ∧
    decode [0b00111101#8] = .ok (.dcrR .a, []) ∧
    decode [0b00110101#8] = .ok (.dcrM, []) ∧
    decode [0b00100011#8] = .ok (.inx .hl, []) ∧
    decode [0b00001011#8] = .ok (.dcx .bc, []) ∧
    decode [0b00111001#8] = .ok (.dad .sp, []) ∧
    decode [0b00100111#8] = .ok (.daa, []) ∧
    decode [0b10111011#8] = .ok (.cmpR .e, []) ∧
    decode [0b10111110#8] = .ok (.cmpM, []) ∧
    decode [0b11111110#8, 0x05#8] = .ok (.cpi 0x05#8, []) := by
  refine ⟨?_, ?_, ?_, ?_, ?_, ?_, ?_, ?_, ?_, ?_, ?_, ?_, ?_, ?_, ?_, ?_, ?_, ?_, ?_, ?_, ?_, ?_, ?_⟩ <;> rfl

/-- Encodings of 42_logical.md. -/
theorem test_decode_logical :
    decode [0b10100001#8] = .ok (.anaR .c, []) ∧
    decode [0b10100110#8] = .ok (.anaM, []) ∧
    decode [0b11100110#8, 0x0F#8] = .ok (.ani 0x0F#8, []) ∧
    decode [0b10101000#8] = .ok (.xraR .b, []) ∧
    decode [0b10101110#8] = .ok (.xraM, []) ∧
    decode [0b11101110#8, 0x81#8] = .ok (.xri 0x81#8, []) ∧
    decode [0b10110001#8] = .ok (.oraR .c, []) ∧
    decode [0b10110110#8] = .ok (.oraM, []) ∧
    decode [0b11110110#8, 0x0F#8] = .ok (.ori 0x0F#8, []) ∧
    decode [0b00101111#8] = .ok (.cma, []) := by
  refine ⟨?_, ?_, ?_, ?_, ?_, ?_, ?_, ?_, ?_, ?_⟩ <;> rfl

/-- Encodings of 43_rotate_flags.md. -/
theorem test_decode_rotate :
    decode [0b00000111#8] = .ok (.rlc, []) ∧
    decode [0b00001111#8] = .ok (.rrc, []) ∧
    decode [0b00010111#8] = .ok (.ral, []) ∧
    decode [0b00011111#8] = .ok (.rar, []) ∧
    decode [0b00111111#8] = .ok (.cmc, []) ∧
    decode [0b00110111#8] = .ok (.stc, []) := by
  refine ⟨?_, ?_, ?_, ?_, ?_, ?_⟩ <;> rfl

/-- Encodings of 44_branch.md, condition codes R65. -/
theorem test_decode_jump :
    decode [0b11000011#8, 0x00#8, 0x3E#8] = .ok (.jmp 0x3E00#16, []) ∧
    decode [0b11000010#8, 0x50#8, 0x20#8] = .ok (.jnz 0x2050#16, []) ∧
    decode [0b11001010#8, 0x50#8, 0x20#8] = .ok (.jz 0x2050#16, []) ∧
    decode [0b11010010#8, 0x50#8, 0x20#8] = .ok (.jnc 0x2050#16, []) ∧
    decode [0b11011010#8, 0x50#8, 0x20#8] = .ok (.jc 0x2050#16, []) ∧
    decode [0b11100010#8, 0x50#8, 0x20#8] = .ok (.jpo 0x2050#16, []) ∧
    decode [0b11101010#8, 0x50#8, 0x20#8] = .ok (.jpe 0x2050#16, []) ∧
    decode [0b11110010#8, 0x50#8, 0x20#8] = .ok (.jp 0x2050#16, []) ∧
    decode [0b11111010#8, 0x50#8, 0x20#8] = .ok (.jm 0x2050#16, []) ∧
    decode [0b11101001#8] = .ok (.pchl, []) := by
  refine ⟨?_, ?_, ?_, ?_, ?_, ?_, ?_, ?_, ?_, ?_⟩ <;> rfl

/-- Encodings of 44_branch.md, condition codes R65. -/
theorem test_decode_call :
    decode [0b11001101#8, 0x50#8, 0x20#8] = .ok (.call 0x2050#16, []) ∧
    decode [0b11000100#8, 0x50#8, 0x20#8] = .ok (.cnz 0x2050#16, []) ∧
    decode [0b11001100#8, 0x50#8, 0x20#8] = .ok (.cz 0x2050#16, []) ∧
    decode [0b11010100#8, 0x50#8, 0x20#8] = .ok (.cnc 0x2050#16, []) ∧
    decode [0b11011100#8, 0x50#8, 0x20#8] = .ok (.cc 0x2050#16, []) ∧
    decode [0b11100100#8, 0x50#8, 0x20#8] = .ok (.cpo 0x2050#16, []) ∧
    decode [0b11101100#8, 0x50#8, 0x20#8] = .ok (.cpe 0x2050#16, []) ∧
    decode [0b11110100#8, 0x50#8, 0x20#8] = .ok (.cp 0x2050#16, []) ∧
    decode [0b11111100#8, 0x50#8, 0x20#8] = .ok (.cm 0x2050#16, []) ∧
    decode [0b11011111#8] = .ok (.rst 3#3, []) := by
  refine ⟨?_, ?_, ?_, ?_, ?_, ?_, ?_, ?_, ?_, ?_⟩ <;> rfl

/-- Encodings of 44_branch.md, condition codes R65. -/
theorem test_decode_return :
    decode [0b11001001#8] = .ok (.ret, []) ∧
    decode [0b11000000#8] = .ok (.rnz, []) ∧
    decode [0b11001000#8] = .ok (.rz, []) ∧
    decode [0b11010000#8] = .ok (.rnc, []) ∧
    decode [0b11011000#8] = .ok (.rc, []) ∧
    decode [0b11100000#8] = .ok (.rpo, []) ∧
    decode [0b11101000#8] = .ok (.rpe, []) ∧
    decode [0b11110000#8] = .ok (.rp, []) ∧
    decode [0b11111000#8] = .ok (.rm, []) := by
  refine ⟨?_, ?_, ?_, ?_, ?_, ?_, ?_, ?_, ?_⟩ <;> rfl

/-- Encodings of 45_stack.md. -/
theorem test_decode_stack :
    decode [0b11010101#8] = .ok (.pushRp .de, []) ∧
    decode [0b11110101#8] = .ok (.pushPsw, []) ∧
    decode [0b11000001#8] = .ok (.popRp .bc, []) ∧
    decode [0b11110001#8] = .ok (.popPsw, []) ∧
    decode [0b11100011#8] = .ok (.xthl, []) ∧
    decode [0b11111001#8] = .ok (.sphl, []) := by
  refine ⟨?_, ?_, ?_, ?_, ?_, ?_⟩ <;> rfl

/-- Encodings of 46_io.md, 47_control.md. -/
theorem test_decode_io_control :
    decode [0b11011011#8, 0x10#8] = .ok (.inPort 0x10#8, []) ∧
    decode [0b11010011#8, 0x20#8] = .ok (.outPort 0x20#8, []) ∧
    decode [0b11111011#8] = .ok (.ei, []) ∧
    decode [0b11110011#8] = .ok (.di, []) ∧
    decode [0b00000000#8] = .ok (.nop, []) ∧
    decode [0b01110110#8] = .ok (.hlt, []) ∧
    decode [0b00100000#8] = .ok (.rim, []) ∧
    decode [0b00110000#8] = .ok (.sim, []) := by
  refine ⟨?_, ?_, ?_, ?_, ?_, ?_, ?_, ?_⟩ <;> rfl

/-- Encodings of R75. -/
theorem test_decode_unassigned :
    decode [0b00001000#8] = .ok (.unassigned08, []) ∧
    decode [0b00010000#8] = .ok (.unassigned10, []) ∧
    decode [0b00011000#8] = .ok (.unassigned18, []) ∧
    decode [0b00101000#8] = .ok (.unassigned28, []) ∧
    decode [0b00111000#8] = .ok (.unassigned38, []) ∧
    decode [0b11001011#8] = .ok (.unassignedCB, []) ∧
    decode [0b11011001#8] = .ok (.unassignedD9, []) ∧
    decode [0b11011101#8] = .ok (.unassignedDD, []) ∧
    decode [0b11101101#8] = .ok (.unassignedED, []) ∧
    decode [0b11111101#8] = .ok (.unassignedFD, []) := by
  refine ⟨?_, ?_, ?_, ?_, ?_, ?_, ?_, ?_, ?_, ?_⟩ <;> rfl

/-- 30_encoding.md R72: 76h is HLT, not MOV M, M; 3Ah is LDA, not LDAX SP; the bytes after an instruction are left. -/
theorem test_decode_neighbours :
    decode [0x76#8] = .ok (.hlt, []) ∧ decode [0x3A#8, 0x00#8, 0x20#8] = .ok (.lda 0x2000#16, []) ∧
    decode [0x00#8, 0xFF#8] = .ok (.nop, [0xFF#8]) := by
  refine ⟨?_, ?_, ?_⟩ <;> rfl

/-- The decoder is total and rejects by name. -/
theorem test_decode_short : decode [] = .error .noBytes ∧ decode [0xC3#8, 0x00#8] = .error (.operandMissing 0xC3#8) := by
  refine ⟨?_, ?_⟩ <;> rfl

/-- 30_encoding.md R80: no two rows with a fixed first byte share it, and a fixed row is found before any row with fields. -/
theorem test_fixed_rows_distinct : (rowsLow ++ rowsBranch ++ rowsHigh).Pairwise (fun x y => x.pattern ≠ y.pattern) := by
  decide

/-- Every table word of the host's numbering: the first byte is bits 7 to 0 (LXI SP, 1234h). -/
theorem test_decodeTableWord : decodeTableWord 24 0x123431 = some (.lxi .sp 0x1234#16) ∧
    decodeTableWord 8 0xC3 = some (.jmp 0x0000#16) := by
  refine ⟨?_, ?_⟩ <;> rfl

/-! ## Execution: one step with the instruction's bytes at pc -/

/-- T1. -/
theorem test_movRR :
    obs (go (st 0x5A 0x0000 0x0000 0x0000 0x0000 (fl 0 0 0 0 0)) [0x47#8])
      (fun t => (t.reg .b, t.acc, t.pc)) = some ((0x5A#8, 0x5A#8, 0x0101#16)) := by decide

/-- T3. -/
theorem test_movRM :
    obs (go (pokes (st 0x00 0x0000 0x0000 0x2050 0x0000 (fl 0 0 0 0 0)) 0x2050#16 [0x9C#8]) [0x5E#8])
      (fun t => (t.reg .e, t.pc)) = some ((0x9C#8, 0x0101#16)) := by decide

/-- T4: H is both address half and data. -/
theorem test_movMR :
    obs (go (st 0x00 0x0000 0x0000 0x2050 0x0000 (fl 0 0 0 0 0)) [0x74#8])
      (fun t => t.mem.read 0x2050#16) = some (some 0x20#8) := by decide

/-- T5. -/
theorem test_mviR :
    obs (go (st 0x00 0x0000 0x0000 0x0000 0x0000 (fl 0 0 0 0 0)) [0x0E#8, 0x7F#8])
      (fun t => (t.reg .c, t.pc)) = some ((0x7F#8, 0x0102#16)) := by decide

/-- T6. -/
theorem test_mviM :
    obs (go (st 0x00 0x0000 0x0000 0xFFFF 0x0000 (fl 0 0 0 0 0)) [0x36#8, 0xFF#8])
      (fun t => (t.mem.read 0xFFFF#16, t.pc)) = some ((some 0xFF#8, 0x0102#16)) := by decide

/-- T7. -/
theorem test_lxi :
    obs (go (st 0x00 0x0000 0x0000 0x0000 0x0000 (fl 0 0 0 0 0)) [0x31#8, 0x34#8, 0x12#8])
      (fun t => (t.sp, t.pc)) = some ((0x1234#16, 0x0103#16)) := by decide

/-- T8. -/
theorem test_lxi_low_byte_first :
    obs (go (st 0x00 0x0000 0x0000 0x0000 0x0000 (fl 0 0 0 0 0)) [0x11#8, 0xCD#8, 0xAB#8])
      (fun t => (t.reg .d, t.reg .e)) = some ((0xAB#8, 0xCD#8)) := by decide

/-- T9. -/
theorem test_lda :
    obs (go (pokes (st 0x00 0x0000 0x0000 0x0000 0x0000 (fl 0 0 0 0 0)) 0xFFFF#16 [0x77#8]) [0x3A#8, 0xFF#8, 0xFF#8])
      (fun t => (t.acc, t.pc)) = some ((0x77#8, 0x0103#16)) := by decide

/-- T10. -/
theorem test_sta :
    obs (go (st 0x42 0x0000 0x0000 0x0000 0x0000 (fl 0 0 0 0 0)) [0x32#8, 0x00#8, 0x20#8])
      (fun t => (t.mem.read 0x2000#16, t.pc)) = some ((some 0x42#8, 0x0103#16)) := by decide

/-- T11. -/
theorem test_lhld_wraps :
    obs (go (pokes (st 0x00 0x0000 0x0000 0x0000 0x0000 (fl 0 0 0 0 0)) 0xFFFF#16 [0x11#8, 0x22#8]) [0x2A#8, 0xFF#8, 0xFF#8])
      (fun t => (t.reg .l, t.reg .h)) = some ((0x11#8, 0x22#8)) := by decide

/-- T12. -/
theorem test_shld :
    obs (go (st 0x00 0x0000 0x0000 0xAE29 0x0000 (fl 0 0 0 0 0)) [0x22#8, 0x00#8, 0x20#8])
      (fun t => (t.mem.read 0x2000#16, t.mem.read 0x2001#16)) = some ((some 0x29#8, some 0xAE#8)) := by decide

/-- T13. -/
theorem test_ldax :
    obs (go (pokes (st 0x00 0x0000 0x3000 0x0000 0x0000 (fl 0 0 0 0 0)) 0x3000#16 [0x5F#8]) [0x1A#8])
      (fun t => (t.acc, t.pc)) = some ((0x5F#8, 0x0101#16)) := by decide

/-- T14. -/
theorem test_stax :
    obs (go (st 0x33 0x3F16 0x0000 0x0000 0x0000 (fl 0 0 0 0 0)) [0x02#8])
      (fun t => t.mem.read 0x3F16#16) = some (some 0x33#8) := by decide

/-- T15. -/
theorem test_xchg :
    obs (go (st 0x00 0x0000 0xABCD 0x1234 0x0000 (fl 0 0 0 0 0)) [0xEB#8])
      (fun t => (t.pair .hl, t.pair .de)) = some ((0xABCD#16, 0x1234#16)) := by decide

/-- A1. -/
theorem test_addR :
    obs (go (st 0x2E 0x6C00 0x0000 0x0000 0x0000 (fl 0 0 0 0 0)) [0x80#8])
      (fun t => (t.acc, t.flags)) = some ((0x9A#8, fl 1 0 1 1 0)) := by decide

/-- A3. -/
theorem test_addR_doubles :
    obs (go (st 0x80 0x0000 0x0000 0x0000 0x0000 (fl 0 0 0 0 0)) [0x87#8])
      (fun t => (t.acc, t.flags)) = some ((0x00#8, fl 0 1 0 1 1)) := by decide

/-- A5. -/
theorem test_addM :
    obs (go (pokes (st 0x01 0x0000 0x0000 0x2000 0x0000 (fl 0 0 0 0 0)) 0x2000#16 [0x7F#8]) [0x86#8])
      (fun t => (t.acc, t.flags)) = some ((0x80#8, fl 1 0 1 0 0)) := by decide

/-- A2. -/
theorem test_adi :
    obs (go (st 0xFF 0x0000 0x0000 0x0000 0x0000 (fl 0 0 0 0 0)) [0xC6#8, 0x01#8])
      (fun t => (t.acc, t.flags)) = some ((0x00#8, fl 0 1 1 1 1)) := by decide

/-- A7. -/
theorem test_adcR :
    obs (go (st 0x3D 0x0042 0x0000 0x0000 0x0000 (fl 0 0 0 0 1)) [0x89#8])
      (fun t => (t.acc, t.flags)) = some ((0x80#8, fl 1 0 1 0 0)) := by decide

/-- A9's numbers on the form with M (R125). -/
theorem test_adcM :
    obs (go (pokes (st 0xFF 0x0000 0x0000 0x2000 0x0000 (fl 0 0 0 0 1)) 0x2000#16 [0xFF#8]) [0x8E#8])
      (fun t => (t.acc, t.flags)) = some ((0xFF#8, fl 1 0 1 1 1)) := by decide

/-- A8. -/
theorem test_aci :
    obs (go (st 0xFF 0x0000 0x0000 0x0000 0x0000 (fl 0 0 0 0 1)) [0xCE#8, 0x00#8])
      (fun t => (t.acc, t.flags)) = some ((0x00#8, fl 0 1 1 1 1)) := by decide

/-- A11. -/
theorem test_subR :
    obs (go (st 0x3E 0x0000 0x0000 0x0000 0x0000 (fl 0 0 0 0 1)) [0x97#8])
      (fun t => (t.acc, t.flags)) = some ((0x00#8, fl 0 1 1 1 0)) := by decide

/-- A11 under AC_SUB = borrow. -/
theorem test_subR_borrow :
    obs (go (withParams (st 0x3E 0x0000 0x0000 0x0000 0x0000 (fl 0 0 0 0 1)) other) [0x97#8])
      (fun t => (t.acc, t.flags)) = some ((0x00#8, fl 0 1 0 1 0)) := by decide

/-- A13's numbers on the form with M (R128). -/
theorem test_subM :
    obs (go (pokes (st 0x10 0x0000 0x0000 0x2000 0x0000 (fl 0 0 0 0 0)) 0x2000#16 [0x01#8]) [0x96#8])
      (fun t => (t.acc, t.flags)) = some ((0x0F#8, fl 0 0 0 1 0)) := by decide

/-- A12. -/
theorem test_sui :
    obs (go (st 0x00 0x0000 0x0000 0x0000 0x0000 (fl 0 0 0 0 0)) [0xD6#8, 0x01#8])
      (fun t => (t.acc, t.flags)) = some ((0xFF#8, fl 1 0 0 1 1)) := by decide

/-- A15. -/
theorem test_sbbR :
    obs (go (st 0x04 0x0002 0x0000 0x0000 0x0000 (fl 0 0 0 0 1)) [0x99#8])
      (fun t => (t.acc, t.flags)) = some ((0x01#8, fl 0 0 1 0 0)) := by decide

/-- A18's numbers on the form with M (R131). -/
theorem test_sbbM :
    obs (go (pokes (st 0x00 0x0000 0x0000 0x2000 0x0000 (fl 0 0 0 0 1)) 0x2000#16 [0x01#8]) [0x9E#8])
      (fun t => (t.acc, t.flags)) = some ((0xFE#8, fl 1 0 0 0 1)) := by decide

/-- A16. -/
theorem test_sbi :
    obs (go (st 0x00 0x0000 0x0000 0x0000 0x0000 (fl 0 0 0 0 1)) [0xDE#8, 0xFF#8])
      (fun t => (t.acc, t.flags)) = some ((0x00#8, fl 0 1 0 1 1)) := by decide

/-- A26: CY kept. -/
theorem test_inrR :
    obs (go (st 0x00 0x0F00 0x0000 0x0000 0x0000 (fl 0 0 0 0 1)) [0x04#8])
      (fun t => (t.reg .b, t.flags)) = some ((0x10#8, fl 0 0 1 0 1)) := by decide

/-- A27: CY not set by the wrap. -/
theorem test_inrR_wraps :
    obs (go (st 0xFF 0x0000 0x0000 0x0000 0x0000 (fl 0 0 0 0 0)) [0x3C#8])
      (fun t => (t.acc, t.flags)) = some ((0x00#8, fl 0 1 1 1 0)) := by decide

/-- A30. -/
theorem test_inrM :
    obs (go (pokes (st 0x00 0x0000 0x0000 0x2000 0x0000 (fl 0 0 0 0 1)) 0x2000#16 [0xFF#8]) [0x34#8])
      (fun t => (t.mem.read 0x2000#16, t.flags)) = some ((some 0x00#8, fl 0 1 1 1 1)) := by decide

/-- A31. -/
theorem test_dcrR :
    obs (go (st 0x00 0x0000 0x0000 0x0000 0x0000 (fl 0 0 0 0 0)) [0x05#8])
      (fun t => (t.reg .b, t.flags)) = some ((0xFF#8, fl 1 0 0 1 0)) := by decide

/-- A35. -/
theorem test_dcrM :
    obs (go (pokes (st 0x00 0x0000 0x0000 0x2000 0x0000 (fl 0 0 0 0 0)) 0x2000#16 [0x40#8]) [0x35#8])
      (fun t => (t.mem.read 0x2000#16, t.flags)) = some ((some 0x3F#8, fl 0 0 0 1 0)) := by decide

/-- A36: no flag. -/
theorem test_inx :
    obs (go (st 0x00 0x0000 0x0000 0xFFFF 0x0000 (fl 0 0 0 0 0)) [0x23#8])
      (fun t => (t.pair .hl, t.flags)) = some ((0x0000#16, fl 0 0 0 0 0)) := by decide

/-- A39. -/
theorem test_dcx :
    obs (go (st 0x00 0x0000 0x1000 0x0000 0x0000 (fl 0 0 0 0 0)) [0x1B#8])
      (fun t => (t.pair .de, t.flags)) = some ((0x0FFF#16, fl 0 0 0 0 0)) := by decide

/-- A40. -/
theorem test_dad :
    obs (go (st 0x00 0x339F 0x0000 0xA17B 0x0000 (fl 0 0 0 0 0)) [0x09#8])
      (fun t => (t.pair .hl, t.flags)) = some ((0xD51A#16, fl 0 0 0 0 0)) := by decide

/-- A42. -/
theorem test_dad_carry :
    obs (go (st 0x00 0x0000 0x0000 0xFFFF 0x0001 (fl 0 0 0 0 0)) [0x39#8])
      (fun t => (t.pair .hl, t.sp, t.flags)) = some ((0x0000#16, 0x0001#16, fl 0 0 0 0 1)) := by decide

/-- Q1: no flag written. -/
theorem test_daa_source :
    obs (go (st 0x9B 0x0000 0x0000 0x0000 0x0000 (fl 0 0 0 0 0)) [0x27#8])
      (fun t => (t.acc, t.flags)) = some ((0x01#8, fl 0 0 0 0 0)) := by decide

/-- Q1 under DAA_FLAGS = intel. -/
theorem test_daa_intel :
    obs (go (withParams (st 0x9B 0x0000 0x0000 0x0000 0x0000 (fl 0 0 0 0 0)) other) [0x27#8])
      (fun t => (t.acc, t.flags)) = some ((0x01#8, fl 0 0 1 0 1)) := by decide

/-- A21. -/
theorem test_cmpR :
    obs (go (st 0x02 0x0000 0x0005 0x0000 0x0000 (fl 0 0 0 0 0)) [0xBB#8])
      (fun t => (t.acc, t.flags)) = some ((0x02#8, fl 1 0 0 0 1)) := by decide

/-- A25. -/
theorem test_cmpM :
    obs (go (pokes (st 0x10 0x0000 0x0000 0x2000 0x0000 (fl 0 0 0 0 0)) 0x2000#16 [0x20#8]) [0xBE#8])
      (fun t => (t.acc, t.flags)) = some ((0x10#8, fl 1 0 1 1 1)) := by decide

/-- A23. -/
theorem test_cpi :
    obs (go (st 0xE5 0x0000 0x0000 0x0000 0x0000 (fl 0 0 0 0 0)) [0xFE#8, 0x05#8])
      (fun t => (t.acc, t.flags)) = some ((0xE5#8, fl 1 0 1 0 0)) := by decide

/-- L1. -/
theorem test_anaR :
    obs (go (st 0xFC 0x000F 0x0000 0x0000 0x0000 (fl 0 0 0 0 1)) [0xA1#8])
      (fun t => (t.acc, t.flags)) = some ((0x0C#8, fl 0 0 1 1 0)) := by decide

/-- L10. -/
theorem test_anaM :
    obs (go (pokes (st 0xF0 0x0000 0x0000 0x2000 0x0000 (fl 0 0 0 0 0)) 0x2000#16 [0x3C#8]) [0xA6#8])
      (fun t => (t.acc, t.flags)) = some ((0x30#8, fl 0 0 1 1 0)) := by decide

/-- L2. -/
theorem test_ani :
    obs (go (st 0x3A 0x0000 0x0000 0x0000 0x0000 (fl 0 0 0 0 0)) [0xE6#8, 0x0F#8])
      (fun t => (t.acc, t.flags)) = some ((0x0A#8, fl 0 0 1 1 0)) := by decide

/-- L4. -/
theorem test_xraR :
    obs (go (st 0xFF 0x0F00 0x0000 0x0000 0x0000 (fl 0 0 0 0 0)) [0xA8#8])
      (fun t => (t.acc, t.flags)) = some ((0xF0#8, fl 1 0 1 1 0)) := by decide

/-- L5 under LOGIC_AC = intel: AC 0. -/
theorem test_xraR_intel :
    obs (go (withParams (st 0x77 0x0000 0x0000 0x0000 0x0000 (fl 0 0 1 0 1)) other) [0xAF#8])
      (fun t => (t.acc, t.flags)) = some ((0x00#8, fl 0 1 0 1 0)) := by decide

/-- L6's numbers on the form with M (R165). -/
theorem test_xraM :
    obs (go (pokes (st 0x3B 0x0000 0x0000 0x2000 0x0000 (fl 0 0 0 0 0)) 0x2000#16 [0x81#8]) [0xAE#8])
      (fun t => (t.acc, t.flags)) = some ((0xBA#8, fl 1 0 1 0 0)) := by decide

/-- L6. -/
theorem test_xri :
    obs (go (st 0x3B 0x0000 0x0000 0x0000 0x0000 (fl 0 0 0 0 0)) [0xEE#8, 0x81#8])
      (fun t => (t.acc, t.flags)) = some ((0xBA#8, fl 1 0 1 0 0)) := by decide

/-- L7. -/
theorem test_oraR :
    obs (go (st 0x33 0x000F 0x0000 0x0000 0x0000 (fl 0 0 0 0 0)) [0xB1#8])
      (fun t => (t.acc, t.flags)) = some ((0x3F#8, fl 0 0 1 1 0)) := by decide

/-- L8's numbers on the form with M (R168). -/
theorem test_oraM :
    obs (go (pokes (st 0xB5 0x0000 0x0000 0x2000 0x0000 (fl 0 0 0 0 0)) 0x2000#16 [0x0F#8]) [0xB6#8])
      (fun t => (t.acc, t.flags)) = some ((0xBF#8, fl 1 0 1 0 0)) := by decide

/-- L8. -/
theorem test_ori :
    obs (go (st 0xB5 0x0000 0x0000 0x0000 0x0000 (fl 0 0 0 0 0)) [0xF6#8, 0x0F#8])
      (fun t => (t.acc, t.flags)) = some ((0xBF#8, fl 1 0 1 0 0)) := by decide

/-- L12: Z stays 1. -/
theorem test_cma :
    obs (go (st 0x00 0x0000 0x0000 0x0000 0x0000 (fl 0 1 0 0 1)) [0x2F#8])
      (fun t => (t.acc, t.flags)) = some ((0xFF#8, fl 0 1 0 0 1)) := by decide

/-- W1. -/
theorem test_rlc :
    obs (go (st 0xF2 0x0000 0x0000 0x0000 0x0000 (fl 0 0 0 0 0)) [0x07#8])
      (fun t => (t.acc, t.flags)) = some ((0xE5#8, fl 0 0 0 0 1)) := by decide

/-- W3. -/
theorem test_rrc :
    obs (go (st 0xF2 0x0000 0x0000 0x0000 0x0000 (fl 0 0 0 0 1)) [0x0F#8])
      (fun t => (t.acc, t.flags)) = some ((0x79#8, fl 0 0 0 0 0)) := by decide

/-- W4. -/
theorem test_rrc_carry :
    obs (go (st 0x01 0x0000 0x0000 0x0000 0x0000 (fl 0 0 0 0 0)) [0x0F#8])
      (fun t => (t.acc, t.flags)) = some ((0x80#8, fl 0 0 0 0 1)) := by decide

/-- W6. -/
theorem test_ral :
    obs (go (st 0x80 0x0000 0x0000 0x0000 0x0000 (fl 0 0 0 0 1)) [0x17#8])
      (fun t => (t.acc, t.flags)) = some ((0x01#8, fl 0 0 0 0 1)) := by decide

/-- W10: S not set. -/
theorem test_rar :
    obs (go (st 0x00 0x0000 0x0000 0x0000 0x0000 (fl 0 0 0 0 1)) [0x1F#8])
      (fun t => (t.acc, t.flags)) = some ((0x80#8, fl 0 0 0 0 0)) := by decide

/-- W9: Z not set. -/
theorem test_rar_carry :
    obs (go (st 0x01 0x0000 0x0000 0x0000 0x0000 (fl 0 0 0 0 0)) [0x1F#8])
      (fun t => (t.acc, t.flags)) = some ((0x00#8, fl 0 0 0 0 1)) := by decide

/-- W11, the source's example. -/
theorem test_cmc :
    obs (go (st 0x09 0x0000 0x0000 0x0000 0x0000 (fl 0 0 0 0 1)) [0x3F#8])
      (fun t => (t.acc, t.flags)) = some ((0x09#8, fl 0 0 0 0 0)) := by decide

/-- W13, the source's example. -/
theorem test_stc :
    obs (go (st 0x09 0x0000 0x0000 0x0000 0x0000 (fl 0 0 0 0 0)) [0x37#8])
      (fun t => (t.acc, t.flags)) = some ((0x09#8, fl 0 0 0 0 1)) := by decide

/-- B1. -/
theorem test_jmp :
    obs (go (st 0x00 0x0000 0x0000 0x0000 0x0000 (fl 0 0 0 0 0)) [0xC3#8, 0x00#8, 0x3E#8])
      (fun t => t.pc) = some (0x3E00#16) := by decide

/-- B2. -/
theorem test_jnz :
    obs (go (st 0x00 0x0000 0x0000 0x0000 0x0000 (fl 0 0 0 0 0)) [0xC2#8, 0x50#8, 0x20#8])
      (fun t => t.pc) = some (0x2050#16) := by decide

/-- B3. -/
theorem test_jnz_untaken :
    obs (go (st 0x00 0x0000 0x0000 0x0000 0x0000 (fl 0 1 0 0 0)) [0xC2#8, 0x50#8, 0x20#8])
      (fun t => t.pc) = some (0x0103#16) := by decide

/-- R192. -/
theorem test_jz :
    obs (go (st 0x00 0x0000 0x0000 0x0000 0x0000 (fl 0 1 0 0 0)) [0xCA#8, 0x50#8, 0x20#8])
      (fun t => t.pc) = some (0x2050#16) := by decide

/-- R192. -/
theorem test_jnc :
    obs (go (st 0x00 0x0000 0x0000 0x0000 0x0000 (fl 0 0 0 0 0)) [0xD2#8, 0x50#8, 0x20#8])
      (fun t => t.pc) = some (0x2050#16) := by decide

/-- B6: the third byte at 0000h. -/
theorem test_jc_wraps :
    obs (go (atPc (st 0x00 0x0000 0x0000 0x0000 0x0000 (fl 0 0 0 0 0)) 0xFFFE#16) [0xDA#8, 0x50#8, 0x20#8])
      (fun t => t.pc) = some (0x0001#16) := by decide

/-- R192. -/
theorem test_jpo :
    obs (go (st 0x00 0x0000 0x0000 0x0000 0x0000 (fl 0 0 0 0 0)) [0xE2#8, 0x50#8, 0x20#8])
      (fun t => t.pc) = some (0x2050#16) := by decide

/-- B5. -/
theorem test_jpe_untaken :
    obs (go (st 0x00 0x0000 0x0000 0x0000 0x0000 (fl 0 0 0 0 0)) [0xEA#8, 0x50#8, 0x20#8])
      (fun t => t.pc) = some (0x0103#16) := by decide

/-- R192: S = 1, untaken. -/
theorem test_jp :
    obs (go (st 0x00 0x0000 0x0000 0x0000 0x0000 (fl 1 0 0 0 0)) [0xF2#8, 0x50#8, 0x20#8])
      (fun t => t.pc) = some (0x0103#16) := by decide

/-- B4. -/
theorem test_jm :
    obs (go (st 0x00 0x0000 0x0000 0x0000 0x0000 (fl 1 0 0 0 0)) [0xFA#8, 0x50#8, 0x20#8])
      (fun t => t.pc) = some (0x2050#16) := by decide

/-- B19. -/
theorem test_pchl :
    obs (go (st 0x00 0x0000 0x0000 0x413E 0x3000 (fl 0 0 0 0 0)) [0xE9#8])
      (fun t => (t.pc, t.sp)) = some ((0x413E#16, 0x3000#16)) := by decide

/-- B8. -/
theorem test_call :
    obs (go (st 0x00 0x0000 0x0000 0x0000 0x3000 (fl 0 0 0 0 0)) [0xCD#8, 0x50#8, 0x20#8])
      (fun t => (t.mem.read 0x2FFF#16, t.mem.read 0x2FFE#16, t.sp, t.pc)) = some ((some 0x01#8, some 0x03#8, 0x2FFE#16, 0x2050#16)) := by decide

/-- B11. -/
theorem test_call_wraps :
    obs (go (st 0x00 0x0000 0x0000 0x0000 0x0001 (fl 0 0 0 0 0)) [0xCD#8, 0x50#8, 0x20#8])
      (fun t => (t.mem.read 0x0000#16, t.mem.read 0xFFFF#16, t.sp, t.pc)) = some ((some 0x01#8, some 0x03#8, 0xFFFF#16, 0x2050#16)) := by decide

/-- B9. -/
theorem test_cnc :
    obs (go (st 0x00 0x0000 0x0000 0x0000 0x3000 (fl 0 0 0 0 0)) [0xD4#8, 0x50#8, 0x20#8])
      (fun t => (t.mem.read 0x2FFF#16, t.mem.read 0x2FFE#16, t.sp, t.pc)) = some ((some 0x01#8, some 0x03#8, 0x2FFE#16, 0x2050#16)) := by decide

/-- B10. -/
theorem test_cnc_untaken :
    obs (go (st 0x00 0x0000 0x0000 0x0000 0x3000 (fl 0 0 0 0 1)) [0xD4#8, 0x50#8, 0x20#8])
      (fun t => (t.mem.read 0x2FFF#16, t.sp, t.pc)) = some ((none, 0x3000#16, 0x0103#16)) := by decide

/-- R195. -/
theorem test_cnz_untaken :
    obs (go (st 0x00 0x0000 0x0000 0x0000 0x3000 (fl 0 1 0 0 0)) [0xC4#8, 0x50#8, 0x20#8])
      (fun t => (t.sp, t.pc)) = some ((0x3000#16, 0x0103#16)) := by decide

/-- R195. -/
theorem test_cz :
    obs (go (st 0x00 0x0000 0x0000 0x0000 0x3000 (fl 0 1 0 0 0)) [0xCC#8, 0x50#8, 0x20#8])
      (fun t => (t.sp, t.pc)) = some ((0x2FFE#16, 0x2050#16)) := by decide

/-- R195. -/
theorem test_cc :
    obs (go (st 0x00 0x0000 0x0000 0x0000 0x3000 (fl 0 0 0 0 1)) [0xDC#8, 0x50#8, 0x20#8])
      (fun t => (t.sp, t.pc)) = some ((0x2FFE#16, 0x2050#16)) := by decide

/-- R195. -/
theorem test_cpo_untaken :
    obs (go (st 0x00 0x0000 0x0000 0x0000 0x3000 (fl 0 0 0 1 0)) [0xE4#8, 0x50#8, 0x20#8])
      (fun t => (t.sp, t.pc)) = some ((0x3000#16, 0x0103#16)) := by decide

/-- R195. -/
theorem test_cpe :
    obs (go (st 0x00 0x0000 0x0000 0x0000 0x3000 (fl 0 0 0 1 0)) [0xEC#8, 0x50#8, 0x20#8])
      (fun t => (t.sp, t.pc)) = some ((0x2FFE#16, 0x2050#16)) := by decide

/-- R195. -/
theorem test_cp_untaken :
    obs (go (st 0x00 0x0000 0x0000 0x0000 0x3000 (fl 1 0 0 0 0)) [0xF4#8, 0x50#8, 0x20#8])
      (fun t => (t.sp, t.pc)) = some ((0x3000#16, 0x0103#16)) := by decide

/-- R195. -/
theorem test_cm :
    obs (go (st 0x00 0x0000 0x0000 0x0000 0x3000 (fl 1 0 0 0 0)) [0xFC#8, 0x50#8, 0x20#8])
      (fun t => (t.sp, t.pc)) = some ((0x2FFE#16, 0x2050#16)) := by decide

/-- B12. -/
theorem test_ret :
    obs (go (pokes (st 0x00 0x0000 0x0000 0x0000 0x2FFE (fl 0 0 0 0 0)) 0x2FFE#16 [0x03#8, 0x01#8]) [0xC9#8])
      (fun t => (t.pc, t.sp)) = some ((0x0103#16, 0x3000#16)) := by decide

/-- B13: the stack is not read. -/
theorem test_rz_untaken :
    obs (go (st 0x00 0x0000 0x0000 0x0000 0x2FFE (fl 0 0 0 0 0)) [0xC8#8])
      (fun t => (t.pc, t.sp)) = some ((0x0101#16, 0x2FFE#16)) := by decide

/-- B14. -/
theorem test_rz :
    obs (go (pokes (st 0x00 0x0000 0x0000 0x0000 0x2FFE (fl 0 1 0 0 0)) 0x2FFE#16 [0x03#8, 0x01#8]) [0xC8#8])
      (fun t => (t.pc, t.sp)) = some ((0x0103#16, 0x3000#16)) := by decide

/-- B15. -/
theorem test_rpo_wraps :
    obs (go (pokes (st 0x00 0x0000 0x0000 0x0000 0xFFFF (fl 0 0 0 0 0)) 0xFFFF#16 [0x34#8, 0x12#8]) [0xE0#8])
      (fun t => (t.pc, t.sp)) = some ((0x1234#16, 0x0001#16)) := by decide

/-- R197. -/
theorem test_rnz_untaken :
    obs (go (pokes (st 0x00 0x0000 0x0000 0x0000 0x2FFE (fl 0 1 0 0 0)) 0x2FFE#16 [0x50#8, 0x20#8]) [0xC0#8])
      (fun t => (t.pc, t.sp)) = some ((0x0101#16, 0x2FFE#16)) := by decide

/-- R197. -/
theorem test_rnc_untaken :
    obs (go (pokes (st 0x00 0x0000 0x0000 0x0000 0x2FFE (fl 0 0 0 0 1)) 0x2FFE#16 [0x50#8, 0x20#8]) [0xD0#8])
      (fun t => (t.pc, t.sp)) = some ((0x0101#16, 0x2FFE#16)) := by decide

/-- R197. -/
theorem test_rc :
    obs (go (pokes (st 0x00 0x0000 0x0000 0x0000 0x2FFE (fl 0 0 0 0 1)) 0x2FFE#16 [0x50#8, 0x20#8]) [0xD8#8])
      (fun t => (t.pc, t.sp)) = some ((0x2050#16, 0x3000#16)) := by decide

/-- R197. -/
theorem test_rpe :
    obs (go (pokes (st 0x00 0x0000 0x0000 0x0000 0x2FFE (fl 0 0 0 1 0)) 0x2FFE#16 [0x50#8, 0x20#8]) [0xE8#8])
      (fun t => (t.pc, t.sp)) = some ((0x2050#16, 0x3000#16)) := by decide

/-- R197. -/
theorem test_rp_untaken :
    obs (go (pokes (st 0x00 0x0000 0x0000 0x0000 0x2FFE (fl 1 0 0 0 0)) 0x2FFE#16 [0x50#8, 0x20#8]) [0xF0#8])
      (fun t => (t.pc, t.sp)) = some ((0x0101#16, 0x2FFE#16)) := by decide

/-- R197. -/
theorem test_rm :
    obs (go (pokes (st 0x00 0x0000 0x0000 0x0000 0x2FFE (fl 1 0 0 0 0)) 0x2FFE#16 [0x50#8, 0x20#8]) [0xF8#8])
      (fun t => (t.pc, t.sp)) = some ((0x2050#16, 0x3000#16)) := by decide

/-- B16. -/
theorem test_rst :
    obs (go (atPc (st 0x00 0x0000 0x0000 0x0000 0x3000 (fl 0 0 0 0 0)) 0x1234#16) [0xDF#8])
      (fun t => (t.mem.read 0x2FFF#16, t.mem.read 0x2FFE#16, t.sp, t.pc)) = some ((some 0x12#8, some 0x35#8, 0x2FFE#16, 0x0018#16)) := by decide

/-- B17. -/
theorem test_rst_wraps :
    obs (go (atPc (st 0x00 0x0000 0x0000 0x0000 0x3000 (fl 0 0 0 0 0)) 0xFFFF#16) [0xC7#8])
      (fun t => (t.mem.read 0x2FFF#16, t.mem.read 0x2FFE#16, t.sp, t.pc)) = some ((some 0x00#8, some 0x00#8, 0x2FFE#16, 0x0000#16)) := by decide

/-- S1. -/
theorem test_pushRp :
    obs (go (st 0x00 0x0000 0x8F9D 0x0000 0x3A2C (fl 0 0 0 0 0)) [0xD5#8])
      (fun t => (t.mem.read 0x3A2B#16, t.mem.read 0x3A2A#16, t.sp)) = some ((some 0x8F#8, some 0x9D#8, 0x3A2A#16)) := by decide

/-- S3. -/
theorem test_popRp :
    obs (go (pokes (st 0x00 0x0000 0x0000 0x0000 0x1239 (fl 0 0 0 0 0)) 0x1239#16 [0x3D#8, 0x93#8]) [0xC1#8])
      (fun t => (t.pair .bc, t.sp)) = some ((0x933D#16, 0x123B#16)) := by decide

/-- S4. -/
theorem test_popPsw :
    obs (go (pokes (st 0x00 0x0000 0x0000 0x0000 0x2000 (fl 0 0 0 0 0)) 0x2000#16 [0xFF#8, 0x12#8]) [0xF1#8])
      (fun t => (t.acc, t.flags, t.sp)) = some ((0x12#8, fl 1 1 1 1 1, 0x2002#16)) := by decide

/-- S5: only spare bits set. -/
theorem test_popPsw_spare :
    obs (go (pokes (st 0x00 0x0000 0x0000 0x0000 0x2000 (fl 1 1 1 1 1)) 0x2000#16 [0x2A#8, 0x12#8]) [0xF1#8])
      (fun t => (t.acc, t.flags)) = some ((0x12#8, fl 0 0 0 0 0)) := by decide

/-- S6. -/
theorem test_xthl :
    obs (go (pokes (st 0x00 0x0000 0x0000 0xA1B2 0xFFFF (fl 0 0 0 0 0)) 0xFFFF#16 [0x11#8, 0x22#8]) [0xE3#8])
      (fun t => (t.pair .hl, t.mem.read 0xFFFF#16, t.mem.read 0x0000#16, t.sp)) = some ((0x2211#16, some 0xB2#8, some 0xA1#8, 0xFFFF#16)) := by decide

/-- S7. -/
theorem test_sphl :
    obs (go (st 0x00 0x0000 0x0000 0x506C 0x0000 (fl 0 0 0 0 0)) [0xF9#8])
      (fun t => t.sp) = some (0x506C#16) := by decide

/-- S8. -/
theorem test_push_pop :
    obs (go2 (st 0x00 0x1234 0x0000 0x0000 0x3000 (fl 0 0 0 0 0)) [0xC5#8, 0xD1#8])
      (fun t => (t.pair .de, t.sp)) = some ((0x1234#16, 0x3000#16)) := by decide

/-- K2. -/
theorem test_outPort :
    obs (go (st 0x3C 0x0000 0x0000 0x0000 0x0000 (fl 0 0 0 0 0)) [0xD3#8, 0x20#8])
      (fun t => (t.events, t.acc, t.pc)) = some (([OutEvent.port 0x20#8 0x3C#8], 0x3C#8, 0x0102#16)) := by decide

/-- K3. -/
theorem test_nop :
    obs (go (st 0x07 0x0000 0x0000 0x0000 0x0000 (fl 0 0 0 0 0)) [0x00#8])
      (fun t => (t.pc, t.acc)) = some ((0x0101#16, 0x07#8)) := by decide

/-- K4. -/
theorem test_hlt :
    obs (go (atPc (st 0x00 0x0000 0x0000 0x0000 0x0000 (fl 0 0 0 0 0)) 0x0120#16) [0x76#8])
      (fun t => (t.pc, t.ctl.halted)) = some ((0x0121#16, true)) := by decide

/-- K5. -/
theorem test_ei :
    obs (go (st 0x00 0x0000 0x0000 0x0000 0x0000 (fl 0 0 0 0 0)) [0xFB#8])
      (fun t => (t.ctl.ie, t.ctl.eiPending, t.pc)) = some ((true, true, 0x0101#16)) := by decide

/-- K6. -/
theorem test_di :
    obs (go (withCtl (st 0x00 0x0000 0x0000 0x0000 0x0000 (fl 0 0 0 0 0)) ({ Ctl.reset with ie := true })) [0xF3#8])
      (fun t => (t.ctl.ie, t.pc)) = some ((false, 0x0101#16)) := by decide

/-- K7. -/
theorem test_rim :
    obs (go (withParams (st 0x00 0x0000 0x0000 0x0000 0x0000 (fl 0 0 0 0 0)) other) [0x20#8])
      (fun t => t.acc) = some (0x07#8) := by decide

/-- K9. -/
theorem test_sim_masks :
    obs (go (withParams (st 0x0D 0x0000 0x0000 0x0000 0x0000 (fl 0 0 0 0 0)) other) [0x30#8])
      (fun t => (t.ctl.m75, t.ctl.m65, t.ctl.m55, t.ctl.sod)) = some ((true, false, true, false)) := by decide

/-- K10. -/
theorem test_sim_serial :
    obs (go (withParams (st 0xC0 0x0000 0x0000 0x0000 0x0000 (fl 0 0 0 0 0)) other) [0x30#8])
      (fun t => (t.ctl.sod, t.ctl.m55, t.events)) = some ((true, true, [OutEvent.sod true])) := by decide

/-- S2: 45h where the spare bits are masked off, whatever they are. -/
theorem test_pushPsw_flag_byte : ∀ spare : BitVec 3, (fl 0 1 0 1 1).toByte spare &&& 0xD5#8 = 0x45#8 := by decide

/-- S2: A in the high byte, SP down by 2. -/
theorem test_pushPsw : obs (exec .pushPsw (st 0x1F 0 0 0 0x3000 (fl 0 1 0 1 1))) (fun t => (t.mem.read 0x2FFF#16, t.sp)) =
    some (some 0x1F#8, 0x2FFE#16) := by
  have h := State.push16_high (st 0x1F 0 0 0 0x3000 (fl 0 1 0 1 1))
    (joinBytes 0x1F#8 ((fl 0 1 0 1 1).toByte (Config.spareDraw 0)))
  rw [highByte_joinBytes] at h
  exact congrArg (fun v => some (v, 0x2FFE#16)) h

/-- K1: the scripted byte, no flag. -/
theorem test_inPort : obs (go { st 0 0 0 0 0 (fl 0 1 0 0 0) with portIn := [0x5A#8] } [0xDB#8, 0x10#8])
    (fun t => (t.acc, t.flags, t.portIn, t.pc)) = some (0x5A#8, fl 0 1 0 0 0, [], 0x0102#16) := by decide

/-- R220, U3: with nothing scripted the byte is a free value. -/
theorem test_inPort_free : obs (go (st 0 0 0 0 0 (fl 0 1 0 0 0)) [0xDB#8, 0x10#8]) (fun t => (t.acc, t.draws)) =
    some (Config.portDraw 0 0x10#8, 1) := rfl

/-- K8: any value under INTERRUPT_MODEL = none. -/
theorem test_rim_free : obs (go (st 0 0 0 0 0 (fl 0 0 0 0 0)) [0x20#8]) (fun t => (t.acc, t.draws)) =
    some (Config.rimDraw 0, 1) := rfl

/-! ### The unassigned values: refused by the spec's name (K12) -/

theorem test_unassigned08 : refuses (go (st 0 0 0 0 0 (fl 0 0 0 0 0)) [0x08#8]) 0x08#8 = true := by decide
theorem test_unassigned10 : refuses (go (st 0 0 0 0 0 (fl 0 0 0 0 0)) [0x10#8]) 0x10#8 = true := by decide
theorem test_unassigned18 : refuses (go (st 0 0 0 0 0 (fl 0 0 0 0 0)) [0x18#8]) 0x18#8 = true := by decide
theorem test_unassigned28 : refuses (go (st 0 0 0 0 0 (fl 0 0 0 0 0)) [0x28#8]) 0x28#8 = true := by decide
theorem test_unassigned38 : refuses (go (st 0 0 0 0 0 (fl 0 0 0 0 0)) [0x38#8]) 0x38#8 = true := by decide
theorem test_unassignedCB : refuses (go (st 0 0 0 0 0 (fl 0 0 0 0 0)) [0xCB#8]) 0xCB#8 = true := by decide
theorem test_unassignedD9 : refuses (go (st 0 0 0 0 0 (fl 0 0 0 0 0)) [0xD9#8]) 0xD9#8 = true := by decide
theorem test_unassignedDD : refuses (go (st 0 0 0 0 0 (fl 0 0 0 0 0)) [0xDD#8]) 0xDD#8 = true := by decide
theorem test_unassignedED : refuses (go (st 0 0 0 0 0 (fl 0 0 0 0 0)) [0xED#8]) 0xED#8 = true := by decide
theorem test_unassignedFD : refuses (go (st 0 0 0 0 0 (fl 0 0 0 0 0)) [0xFD#8]) 0xFD#8 = true := by decide

/-! ## The step: fetch, interrupts, reset, halt -/

/-- R30, U4: the first fetch after reset, with nothing placed, reads a byte nothing has written (log 15). -/
theorem test_reset_fetch_faults : faultsAt (step State.reset) 0x0000#16 = true := by decide

/-- An operand byte that nothing has written is a fault too. -/
theorem test_operand_fetch_faults : faultsAt (go (st 0 0 0 0 0 (fl 0 0 0 0 0)) [0xC3#8, 0x00#8]) 0x0102#16 = true := by
  decide

/-- R43: the bytes of an instruction wrap past FFFFh; a table word placed by withFetchWord is what the step runs. -/
theorem test_withFetchWord : obs (step ((atPc State.reset 0xFFFE#16).withFetchWord 24 0x123421))
    (fun t => (t.pair .hl, t.pc)) = some (0x1234#16, 0x0001#16) := by decide

/-- The parameters `i8085` with the other defaults. -/
def i8085 : Params := { Params.default with interruptModel := .i8085 }

/-- A running processor under `i8085`, pc 0201h and SP 3000h, with the given control state. -/
def running (c : Ctl) : State := { st 0 0 0 0 0x3000 (fl 0 0 0 0 0) with pc := 0x0201#16, ctl := c, params := i8085 }

/-- IE set and all masks open. -/
def enabled : Ctl := { Ctl.reset with ie := true, m55 := false, m65 := false, m75 := false }

/-- I1. -/
theorem test_rst75_entry :
    obs (step (running { enabled with i75 := true })) (fun t => (t.ctl.i75, t.ctl.ie, t.sp, t.pc)) =
      some (false, false, 0x2FFE#16, 0x003C#16) ∧
    obs (step (running { enabled with i75 := true })) (fun t => (t.mem.read 0x2FFF#16, t.mem.read 0x2FFE#16)) =
      some (some 0x02#8, some 0x01#8) := by decide

/-- I2: no entry with IE = 0; the NOP at 0201h runs and the latch stays. -/
theorem test_rst75_disabled : obs (go (running { enabled with ie := false, i75 := true }) [0x00#8])
    (fun t => (t.ctl.i75, t.pc)) = some (true, 0x0202#16) := by decide

/-- I3: the entry of TRAP. -/
theorem test_trap_entry : obs (step { running { enabled with trapLatch := true } with lines := { Lines.low with trap := true } })
    (fun t => (t.ctl.trapIe, t.ctl.ie, t.mem.read 0x2FFF#16, t.mem.read 0x2FFE#16, t.pc)) =
    some (true, false, some 0x02#8, some 0x01#8, 0x0024#16) := by decide

/-- The start of I4: EI and RET at 0201h, RST 6.5 high and unmasked, 0500h on the stack. -/
def eiRet : State :=
  pokes (pokes { running { Ctl.reset with m65 := false } with lines := { Lines.low with rst65 := true }, sp := 0x2FFE#16 }
    0x2FFE#16 [0x00#8, 0x05#8]) 0x0201#16 [0xFB#8, 0xC9#8]

/-- The next state, or the same state where there is none. -/
def nextOf (s : State) : State := (obs (step s) id).getD s

/-- I4: the RET completes first. -/
theorem test_ei_delay : obs (step (nextOf eiRet)) (fun t => (t.pc, t.sp)) = some (0x0500#16, 0x3000#16) := by decide

/-- I4: then the entry. -/
theorem test_ei_delay_entry : obs (step (nextOf (nextOf eiRet)))
    (fun t => (t.pc, t.mem.read 0x2FFF#16, t.mem.read 0x2FFE#16, t.ctl.ie)) =
    some (0x0034#16, some 0x05#8, some 0x00#8, false) := by decide

/-- I5: RST 5.5 ends a halt. -/
theorem test_rst55_ends_halt :
    obs (step { running { enabled with halted := true } with
        pc := 0x0121#16, script := [⟨{ Lines.low with rst55 := true }, false, false, false⟩] })
      (fun t => (t.ctl.halted, t.ctl.ie, t.mem.read 0x2FFF#16, t.mem.read 0x2FFE#16, t.pc)) =
    some (false, false, some 0x01#8, some 0x21#8, 0x002C#16) := by decide

/-- R247: INTR with a device that supplies RST 2 pushes the address of the next instruction. -/
theorem test_intr_rst : obs (step { running enabled with lines := { Lines.low with intr := true, ack0 := 0xD7#8 } })
    (fun t => (t.mem.read 0x2FFF#16, t.mem.read 0x2FFE#16, t.pc, t.ctl.ie)) =
    some (some 0x02#8, some 0x01#8, 0x0010#16, false) := by decide

/-- R244: TRAP before all others; with the RST 5.5 mask closed INTR is the only one left. -/
theorem test_priority :
    { running { enabled with trapLatch := true, i75 := true } with
      lines := { Lines.low with trap := true, rst65 := true, intr := true } }.accepted = some .trap ∧
    { running { enabled with m55 := true } with lines := { Lines.low with rst55 := true, intr := true } }.accepted =
      some .intr := by decide

/-- R228, R251: under `none` a halted processor never steps again; under `i8085` it waits. -/
theorem test_halted :
    (match step { st 0 0 0 0 0 (fl 0 0 0 0 0) with ctl := { Ctl.reset with halted := true } } with
      | .fault .halted => true
      | _ => false) = true ∧
    obs (step (running { enabled with halted := true })) (fun t => (t.pc, t.ctl.halted)) = some (0x0201#16, true) := by
  decide

/-- R280, R281: a reset event wins over TRAP; pc 0000h, masks set, memory kept. -/
theorem test_reset_event :
    obs (step { running { enabled with trapLatch := true } with
        script := [⟨{ Lines.low with trap := true }, true, true, true⟩],
        mem := (pokes State.reset 0x2000#16 [0x77#8]).mem })
      (fun t => (t.pc, t.ctl, t.mem.read 0x2000#16)) = some (0x0000#16, Ctl.reset, some 0x77#8) := by decide

/-- A reset under `i8085`, then a TRAP that rises at once, with a NOP at 0000h. -/
def trapAfterReset : State :=
  { pokes (running enabled) 0x0000#16 [0x00#8] with
    script := [⟨Lines.low, false, false, true⟩, ⟨{ Lines.low with trap := true }, false, true, false⟩] }

/-- R281, R245: the byte at 0000h is fetched first and the NOP runs; the TRAP is taken at its end (R246). -/
theorem test_first_fetch_after_reset :
    obs (step (nextOf trapAfterReset)) (fun t => (t.pc, t.ctl.trapLatch)) = some (0x0001#16, true) ∧
    obs (step (nextOf (nextOf trapAfterReset))) (fun t => (t.pc, t.ctl.trapLatch)) = some (0x0024#16, false) := by decide

/-! ## The card's data -/

/-- §T2 and R292: states taken and not taken, and a row with one count. -/
theorem test_states : statesOf (.jnz 0#16) (fl 0 0 0 0 0) = some 10 ∧ statesOf (.jnz 0#16) (fl 0 1 0 0 0) = some 7 ∧
    statesOf .xthl (fl 0 0 0 0 0) = some 16 ∧ statesOf .unassigned08 (fl 0 0 0 0 0) = none := by decide

/-- 30_encoding.md, assembler syntax. -/
theorem test_asm : asmOf (.movRR .b .a) = "MOV B, A" ∧ asmOf (.lxi .sp 0x1234#16) = "LXI SP, 1234h" := by decide

/-! ## Witnesses: states and operands that meet the hypotheses of each obligation -/

/-- HL = 2000h with a byte there, SP = 3000h with two bytes there, and bytes at FFFFh and 0000h. -/
def demo : State := pokes (pokes (pokes (st 0x45 0x1234 0xFFFF 0x2000 0x3000 (fl 0 0 0 0 1)) 0x2000#16 [0x9C#8])
  0x3000#16 [0x34#8, 0x12#8]) 0xFFFF#16 [0x11#8, 0x22#8]

theorem demo_inv : Inv demo := ⟨by decide, by decide, by decide, by decide, by decide⟩

theorem witness_DecodingTheEncodingGivesTheInstruction :
    (Instr.lxi .sp 0xFFFF#16).wellFormed = true ∧ (Instr.popRp .hl).wellFormed = true := by decide

theorem witness_DecodedBytesAreTheEncoding : decode [0x31#8, 0x34#8, 0x12#8, 0x00#8] = .ok (.lxi .sp 0x1234#16, [0x00#8]) := rfl

/-- One value of each of the four cases, at the ends of their lists. -/
theorem witness_FirstByteGivesTheLength : opcodeLength 0x01#8 = some 3 ∧ opcodeLength 0xFC#8 = some 3 ∧
    opcodeLength 0x06#8 = some 2 ∧ opcodeLength 0xDB#8 = some 2 ∧ opcodeLength 0x08#8 = none ∧
    opcodeLength 0xFD#8 = none ∧ opcodeLength 0x00#8 = some 1 ∧ opcodeLength 0xFF#8 = some 1 := by decide

/-- The hypotheses of the statement about the step for one instruction's bytes at pc, and what exec answers. -/
def StepWitness (s : State) (bytes : List Byte) (i : Instr) : Prop :=
  s.resetAsserted = false ∧ s.sample.accepted = none ∧ s.sample.ctl.halted = false ∧
    decode bytes = .ok (i, []) ∧ bytesAt s s.pc bytes

theorem witness_StepRunsTheDecodedInstruction_next :
    StepWitness (pokes demo 0x0100#16 [0x3A#8, 0xFF#8, 0xFF#8]) [0x3A#8, 0xFF#8, 0xFF#8] (.lda 0xFFFF#16) ∧
    (obs (exec (.lda 0xFFFF#16) (pokes demo 0x0100#16 [0x3A#8, 0xFF#8, 0xFF#8]).sample) (fun t => t.acc)) =
      some 0x11#8 := by
  refine ⟨⟨by decide, by decide, by decide, rfl, ?_⟩, by decide⟩
  exact ⟨by decide, by decide, by decide, trivial⟩

theorem witness_StepRunsTheDecodedInstruction_fault :
    StepWitness (pokes demo 0x0100#16 [0x3A#8, 0x00#8, 0x50#8]) [0x3A#8, 0x00#8, 0x50#8] (.lda 0x5000#16) ∧
    faultsAt (exec (.lda 0x5000#16) (pokes demo 0x0100#16 [0x3A#8, 0x00#8, 0x50#8]).sample) 0x5000#16 = true := by
  refine ⟨⟨by decide, by decide, by decide, rfl, ?_⟩, by decide⟩
  exact ⟨by decide, by decide, by decide, trivial⟩

theorem witness_StepRunsTheDecodedInstruction_refused :
    StepWitness (pokes demo 0x0100#16 [0xDD#8]) [0xDD#8] .unassignedDD ∧
    refuses (exec .unassignedDD (pokes demo 0x0100#16 [0xDD#8]).sample) 0xDD#8 = true := by
  refine ⟨⟨by decide, by decide, by decide, rfl, ?_⟩, by decide⟩
  exact ⟨by decide, trivial⟩

/-- A state with the invariant whose step is a next state (NOP at pc). -/
theorem witness_EveryStepKeepsTheInvariant :
    Inv (pokes demo 0x0100#16 [0x00#8]) ∧ (obs (step (pokes demo 0x0100#16 [0x00#8])) (fun t => t.pc)) = some 0x0101#16 :=
  ⟨⟨by decide, by decide, by decide, by decide, by decide⟩, by decide⟩

/-- A step that goes on with an output event (OUT at pc). -/
theorem witness_StepsKeepParametersAndHistory :
    obs (step (pokes demo 0x0100#16 [0xD3#8, 0x20#8])) (fun t => t.events) = some [.port 0x20#8 0x45#8] := by decide

theorem witness_InstructionsCompleteUnlessAReadIsUnwritten_reads :
    assigned .ret = true ∧ readsWritten .ret demo := by
  refine ⟨rfl, fun a ha => ?_⟩
  simp only [dataAccesses, popAccesses, List.mem_cons, Access.read.injEq, List.not_mem_nil, or_false] at ha
  rcases ha with rfl | rfl <;> decide

/-- The first read has a byte and the second, at FFFFh + 2, has none. -/
theorem witness_InstructionsCompleteUnlessAReadIsUnwritten_fault :
    dataAccesses (.lhld 0x0000#16) demo = [.read 0x0000#16] ++ .read 0x0001#16 :: [] ∧
    demo.mem.read 0x0001#16 = none ∧ (demo.mem.read 0x0000#16).isSome := by decide

theorem witness_InstructionsWriteOnlyTheListedBytes :
    (obs (exec (.shld 0xFFFF#16) demo) (fun t => t.mem.read 0xFFFF#16)) = some (some 0x00#8) ∧
    Access.write 0x2000#16 ∉ dataAccesses (.shld 0xFFFF#16) demo := by decide

/-- JC reads CY only: the two flag states differ in the four others. -/
theorem witness_UnreadFlagsHaveNoInfluence :
    demo.flags = fl 0 0 0 0 1 ∧ ∀ n ∈ flagsRead (.jc 0#16), (fl 1 1 1 1 1).value n = demo.flags.value n := by decide

theorem witness_LoadsReadTheByteAtTheirAddress :
    demo.mem.read (demo.pair .hl) = some 0x9C#8 ∧ demo.mem.read 0xFFFF#16 = some 0x11#8 ∧
    demo.mem.read (demo.pair .de) = some 0x11#8 := by decide

theorem witness_StoresWriteOneByteAtTheirAddress : Pair.de = .bc ∨ Pair.de = .de := by decide

/-- Every clause has its pair: B, D and H take the high byte (R11). -/
theorem witness_LxiLoadsThePair : Pair.hl ≠ .sp ∧
    (obs (exec (.lxi .bc 0x1234#16) demo) fun t => (t.reg .b, t.reg .c)) = some (0x12#8, 0x34#8) ∧
    (obs (exec (.lxi .de 0x1234#16) demo) fun t => (t.reg .d, t.reg .e)) = some (0x12#8, 0x34#8) ∧
    (obs (exec (.lxi .hl 0x1234#16) demo) fun t => (t.reg .h, t.reg .l)) = some (0x12#8, 0x34#8) ∧
    (obs (exec (.lxi .sp 0x1234#16) demo) fun t => t.sp) = some 0x1234#16 := by decide

/-- At the top of memory, where dir + 1 is 0000h. -/
theorem witness_LhldAndShldMoveHlLowByteFirst :
    demo.mem.read 0xFFFF#16 = some 0x11#8 ∧ demo.mem.read (0xFFFF#16 + 1) = some 0x22#8 := by decide

theorem witness_AdditionsWriteTheSumAndFlags : demo.mem.read (demo.pair .hl) = some 0x9C#8 := by decide

theorem witness_SubtractionsWriteTheDifferenceAndFlags : demo.mem.read (demo.pair .hl) = some 0x9C#8 := by decide

theorem witness_CompareSetsFlagsAndKeepsA : demo.mem.read (demo.pair .hl) = some 0x9C#8 := by decide

/-- The byte at (HL) at the value that wraps. -/
theorem witness_InrAndDcrCountAByte : (demo.storeM 0xFF#8).mem.read ((demo.storeM 0xFF#8).pair .hl) = some 0xFF#8 := by
  decide

theorem witness_InxAndDcxCountAPair : Pair.bc ≠ .sp := by decide

theorem witness_DaaAdjustsA : demo.params.daaFlags = .source ∧ (withParams demo other).params.daaFlags = .intel := by
  decide

/-- 99 + 99 with a carry, the largest sum. -/
theorem witness_AdcThenDaaAddsDecimally :
    (99 < 100) ∧ (withParams (st 0x99 0x9900 0 0 0 (fl 0 0 0 0 1)) other).acc.toNat = 99 / 10 * 16 + 99 % 10 ∧
    ((withParams (st 0x99 0x9900 0 0 0 (fl 0 0 0 0 1)) other).reg .b).toNat = 99 / 10 * 16 + 99 % 10 ∧
    (withParams (st 0x99 0x9900 0 0 0 (fl 0 0 0 0 1)) other).params.daaFlags = .intel := by decide

theorem witness_LogicalInstructionsCombineBits : demo.mem.read (demo.pair .hl) = some 0x9C#8 := by decide

/-- A jump of the list whose condition holds and one whose does not. -/
theorem witness_ConditionalJumpsTestOneFlag : demo.flags.cy = true ∧ (!demo.flags.cy) = false := by decide

theorem witness_CallsPushTheReturnAddress_taken : demo.flags.cy = true := by decide

theorem witness_CallsPushTheReturnAddress_untaken : demo.flags.z = false := by decide

theorem witness_ReturnsPopPc : topOfStack demo 0x34#8 0x12#8 ∧ demo.flags.cy = true ∧ demo.flags.z = false := by
  refine ⟨⟨by decide, by decide⟩, by decide, by decide⟩

/-- The state after a CALL from SP = 0001h, where the pushed bytes lie at 0000h and FFFFh, is itself such a state. -/
theorem witness_RetReturnsToTheCaller :
    exec (.call 0x2050#16) { demo with sp := 0x0001#16 } =
      .next ({ demo with sp := 0x0001#16 }.call 0x0103#16 0x2050#16) ∧
    ({ demo with sp := 0x0001#16 }.call 0x0103#16 0x2050#16).mem.read (0x0001#16 - 2) = some 0x03#8 :=
  ⟨rfl, by decide⟩

theorem witness_PushStoresThePair : Pair.de ≠ .sp := by decide

theorem witness_PswMovesAAndFlags : topOfStack demo 0x34#8 0x12#8 := ⟨by decide, by decide⟩

/-- With SP = FFFFh: the second byte stands at 0000h. -/
theorem witness_PopLoadsThePair : Pair.hl ≠ .sp ∧ topOfStack { demo with sp := 0xFFFF#16 } 0x11#8 0x22#8 :=
  ⟨by decide, by decide, by decide⟩

theorem witness_XthlExchangesAndSphlLoads : topOfStack { demo with sp := 0xFFFF#16 } 0x11#8 0x22#8 :=
  ⟨by decide, by decide⟩

theorem witness_PushThenPopRestores : Pair.bc ≠ .sp ∧ Pair.de ≠ .sp := by decide

theorem witness_InLoadsWhatTheEnvironmentPresents :
    { demo with portIn := [0x5A#8] }.portIn = 0x5A#8 :: [] ∧ demo.portIn = [] := by decide

/-- A halted processor that accepts nothing, under each model. -/
def haltedState (p : Params) : State := { demo with ctl := { Ctl.reset with halted := true }, params := p }

theorem witness_HltHaltsTheProcessor :
    ((haltedState Params.default).ctl.halted = true ∧ (haltedState Params.default).resetAsserted = false ∧
      (haltedState Params.default).sample.accepted = none ∧
      (haltedState Params.default).params.interruptModel = .none) ∧
    ((haltedState i8085).ctl.halted = true ∧ (haltedState i8085).resetAsserted = false ∧
      (haltedState i8085).sample.accepted = none ∧ (haltedState i8085).params.interruptModel = .i8085) := by decide

theorem witness_RimReadsTheInterruptStatus :
    demo.params.interruptModel = .none ∧ (withParams demo i8085).params.interruptModel = .i8085 := by decide

theorem witness_UnassignedOpcodesAreRefused : decode [0xFD#8] = .ok (.unassignedFD, []) ∧
    refuses (exec .unassignedFD demo) 0xFD#8 = true := ⟨rfl, by decide⟩

/-- An event in which TRAP and RST 7.5 rise. -/
def rising : EnvEvent := ⟨{ Lines.low with trap := true }, true, false, false⟩

theorem witness_SamplingLatchesRisingEdges : { demo with script := [rising] }.script = rising :: [] ∧
    { demo with script := [rising] }.sample.ctl.i75 = true ∧
    { demo with script := [rising] }.sample.ctl.trapLatch = true ∧ demo.script = [] := by decide

/-- Both sides of the equivalence hold for RST 7.5 with RST 6.5 standing below it. -/
theorem witness_HighestStandingRequestIsAccepted :
    { running { enabled with i75 := true } with lines := { Lines.low with rst65 := true } }.accepted = some .rst75 ∧
    requestStands { running { enabled with i75 := true } with lines := { Lines.low with rst65 := true } } .rst75 ∧
    requestStands { running { enabled with i75 := true } with lines := { Lines.low with rst65 := true } } .rst65 :=
  ⟨by decide, ⟨rfl, rfl, rfl, rfl⟩, ⟨rfl, rfl, rfl, rfl⟩⟩

/-- A state in which exactly one vectored source stands. -/
def standing (src : IntSource) : State :=
  match src with
  | .trap => { running { enabled with trapLatch := true } with lines := { Lines.low with trap := true } }
  | .rst75 => running { enabled with i75 := true }
  | .rst65 => { running enabled with lines := { Lines.low with rst65 := true } }
  | .rst55 => { running enabled with lines := { Lines.low with rst55 := true } }
  | .intr => { running enabled with lines := { Lines.low with intr := true, ack0 := 0xD7#8 } }

theorem witness_VectoredEntryPushesAndDisables :
    ∀ src ∈ [IntSource.trap, .rst75, .rst65, .rst55],
      (standing src).resetAsserted = false ∧ (standing src).sample = standing src ∧
        (standing src).accepted = some src := by decide

/-- The device supplies RST 2; the exec of the first clause answers a next state. -/
theorem witness_IntrExecutesTheSuppliedInstruction :
    (standing .intr).resetAsserted = false ∧ (standing .intr).sample = standing .intr ∧
    (standing .intr).accepted = some .intr ∧
    decode [(standing .intr).lines.ack0, (standing .intr).lines.ack1, (standing .intr).lines.ack2] =
      .ok (.rst 2#3, [0x00#8, 0x00#8]) ∧
    (standing .intr).lines.ack0 = BitVec.ofNat 8 (0xC7 + (2#3).toNat * 8) ∧
    obs (exec (.rst 2#3) { standing .intr with
      pc := (standing .intr).pc - BitVec.ofNat 16 (encode (.rst 2#3)).length
      ctl := { (standing .intr).ctl with ie := false, eiPending := false, halted := false } }) (fun t => t.pc) =
      some 0x0010#16 :=
  ⟨by decide, by decide, by decide, rfl, by decide, by decide⟩

/-- A device that supplies other bytes: for the clauses on EI, on an unassigned byte and on a fault. -/
def supplying (b lo hi : Byte) : State :=
  { running enabled with lines := { Lines.low with intr := true, ack0 := b, ack1 := lo, ack2 := hi } }

theorem witness_IntrExecutesTheSuppliedInstruction_others :
    (∀ b ∈ [0xFB#8, 0x08#8, 0xFD#8, 0x3A#8], (supplying b 0x00#8 0x50#8).resetAsserted = false ∧
      (supplying b 0x00#8 0x50#8).sample = supplying b 0x00#8 0x50#8 ∧
      (supplying b 0x00#8 0x50#8).accepted = some .intr) ∧
    opcodeLength 0x08#8 = none ∧ opcodeLength 0xFD#8 = none ∧
    decode [0x3A#8, 0x00#8, 0x50#8] = .ok (.lda 0x5000#16, []) ∧
    faultsAt (exec (.lda 0x5000#16) (supplying 0x3A#8 0x00#8 0x50#8)) 0x5000#16 = true :=
  ⟨by decide, by decide, by decide, rfl, by decide⟩

/-- EI at pc with RST 6.5 standing and IE still 0. -/
def beforeEi : State :=
  pokes { running { enabled with ie := false } with lines := { Lines.low with rst65 := true } } 0x0201#16 [0xFB#8]

theorem witness_EiHoldsMaskableInterruptsForOneInstruction :
    beforeEi.resetAsserted = false ∧ beforeEi.sample.accepted = none ∧ beforeEi.sample.ctl.halted = false ∧
    beforeEi.params.eiDelay = .one ∧ beforeEi.mem.read beforeEi.pc = some 0xFB#8 ∧
    obs (step beforeEi) (fun t => t.ctl.eiPending) = some true := by decide

/-- After a TRAP entry with IE = 1, two RIMs in a row (vector I3); the first clears TRAP_SEEN and TRAP_IE (R26). -/
theorem witness_FirstRimAfterTrapReadsTheOldEnable :
    (standing .trap).resetAsserted = false ∧ (standing .trap).sample.accepted = some .trap ∧
    (obs (step (standing .trap)) fun t => obs (exec .rim t) fun u => obs (exec .rim u) fun v =>
      (u.acc.getLsbD 3, v.acc.getLsbD 3, u.ctl.trapSeen, u.ctl.trapIe)) =
      some (some (some (true, false, false, false))) := by decide

theorem witness_OnlyEiEnablesInterrupts :
    beforeEi.ctl.ie = false ∧ obs (step beforeEi) (fun t => t.ctl.ie) = some true := by decide

theorem witness_ResetEventRestartsTheProcessor :
    { standing .trap with script := [{ rising with reset := true }] }.script = { rising with reset := true } :: [] ∧
    { rising with reset := true }.reset = true := by decide

/-- After the reset, with a TRAP about to rise, the NOP at 0000h meets the hypotheses of the last clause. -/
theorem witness_ResetEventRestartsTheProcessor_fetch :
    (nextOf trapAfterReset).resetAsserted = false ∧ decode [0x00#8] = .ok (.nop, []) ∧
    bytesAt (nextOf trapAfterReset) 0x0000#16 [0x00#8] ∧
    obs (exec .nop (nextOf trapAfterReset).sample) (fun t => (t.pc, t.ctl.trapLatch)) = some (0x0001#16, true) :=
  ⟨by decide, rfl, ⟨by decide, trivial⟩, by decide⟩

/-- A state whose pc is the last address, so that the operands of the instruction there would stand at 0000h and 0001h. -/
def fetchEnd (bytes : List Byte) : State := pokes (atPc (st 0 0 0 0 0 (fl 0 0 0 0 0)) 0xFFFF#16) 0xFFFF#16 bytes

/-- What the statement about unwritten instruction bytes asks of a state and the written bytes of `JMP 1234h`. -/
def FetchWitness (s : State) (before : List Byte) (v : Byte) (after : List Byte) : Prop :=
  s.resetAsserted = false ∧ s.sample.accepted = none ∧ s.sample.ctl.halted = false ∧
    encode (.jmp 0x1234#16) = before ++ v :: after ∧ bytesAt s s.pc before ∧
    s.mem.read (s.pc + BitVec.ofNat 16 before.length) = none

/-- None, one and two of the three bytes are written. -/
theorem witness_FetchStopsOnAnUnwrittenByte : (Instr.jmp 0x1234#16).wellFormed = true ∧
    FetchWitness (fetchEnd []) [] 0xC3#8 [0x34#8, 0x12#8] ∧
    FetchWitness (fetchEnd [0xC3#8]) [0xC3#8] 0x34#8 [0x12#8] ∧
    FetchWitness (fetchEnd [0xC3#8, 0x34#8]) [0xC3#8, 0x34#8] 0x12#8 [] :=
  ⟨rfl, ⟨by decide, by decide, by decide, rfl, trivial, by decide⟩,
    ⟨by decide, by decide, by decide, rfl, ⟨by decide, trivial⟩, by decide⟩,
    ⟨by decide, by decide, by decide, rfl, ⟨by decide, by decide, trivial⟩, by decide⟩⟩

end Sys2Proof.Tests
end

namespace Sys2Proof.Machine

/-! ## Frames

One rule per update for `Keeps`, composed with `Keeps.trans`; an instruction's frame follows the updates its meaning is
made of. -/

section Frames

variable {rs : List Reg} {addrs : List Word} {s t u : State}

theorem SameOutside.trans (hst : SameOutside s t) (htu : SameOutside t u) : SameOutside s u where
  lines := htu.lines.trans hst.lines
  script := htu.script.trans hst.script
  portIn := htu.portIn.trans hst.portIn
  firstFetch := htu.firstFetch.trans hst.firstFetch
  draws := htu.draws.trans hst.draws
  events := htu.events.trans hst.events
  params := htu.params.trans hst.params

theorem Keeps.trans (hst : Keeps rs addrs s t) (htu : Keeps rs addrs t u) : Keeps rs addrs s u where
  regs r hr := (htu.regs r hr).trans (hst.regs r hr)
  mem a ha := (htu.mem a ha).trans (hst.mem a ha)
  outside := hst.outside.trans htu.outside

theorem keeps_setReg {r : Reg} (hr : r ∈ rs) (v : Byte) : Keeps rs addrs s (s.setReg r v) where
  regs _ hq := State.reg_setReg_other s v (ne_of_mem_of_not_mem hr hq).symm
  mem _ _ := rfl
  outside := ⟨rfl, rfl, rfl, rfl, rfl, rfl, rfl⟩

theorem keeps_setPair {pair : Pair} (hp : pairRegs pair ⊆ rs) (w : Word) : Keeps rs addrs s (s.setPair pair w) where
  regs r hr := by
    have hout : r ∉ pairRegs pair := fun h => hr (hp h)
    cases pair <;> exact State.reg_setPair_other s w hout
  mem _ _ := by rw [State.setPair_mem]
  outside := by constructor <;> simp only [State.setPair_lines, State.setPair_script, State.setPair_portIn,
    State.setPair_firstFetch, State.setPair_draws, State.setPair_events, State.setPair_params]

theorem keeps_store {a : Word} (ha : a ∈ addrs) (v : Byte) : Keeps rs addrs s (s.store a v) where
  regs _ _ := rfl
  mem _ hb := Memory.read_write_other s.mem v (ne_of_mem_of_not_mem ha hb).symm
  outside := ⟨rfl, rfl, rfl, rfl, rfl, rfl, rfl⟩

theorem keeps_advance (n : Nat) : Keeps rs addrs s (s.advance n) where
  regs _ _ := rfl
  mem _ _ := rfl
  outside := ⟨rfl, rfl, rfl, rfl, rfl, rfl, rfl⟩

/-- An instruction that ends in `advance`, after updates that leave SP, PC and the control state alone. -/
theorem sequential_advance {n : Nat} (sp : t.sp = s.sp) (pc : t.pc = s.pc) (ctl : t.ctl = s.ctl) :
    Sequential n s (t.advance n) where
  sp := sp
  pc := by rw [State.advance_pc, State.nextPc, pc]
  ctl := ctl

end Frames

/-! ## The meanings of the transfer instructions -/

section Transfer

variable {s : State}

/-- An instruction whose meaning is one register write. -/
theorem writesReg_of_exec {i : Instr} {r : Reg} {v : Byte} {n : Nat}
    (h : exec i s = .next ((s.setReg r v).advance n)) :
    ∃ t, exec i s = .next t ∧ t.reg r = v ∧ Keeps [r] [] s t ∧ t.flags = s.flags ∧ Sequential n s t :=
  ⟨_, h, State.reg_setReg_same s r v, (keeps_setReg (List.mem_singleton_self r) v).trans (keeps_advance n), rfl,
    sequential_advance rfl rfl rfl⟩

/-- An instruction whose meaning is one store. -/
theorem writesByte_of_exec {i : Instr} {a : Word} {v : Byte} {n : Nat}
    (h : exec i s = .next ((s.store a v).advance n)) :
    ∃ t, exec i s = .next t ∧ t.mem.read a = some v ∧ Keeps [] [a] s t ∧ t.flags = s.flags ∧ Sequential n s t :=
  ⟨_, h, Memory.read_write_same s.mem a v, (keeps_store (List.mem_singleton_self a) v).trans (keeps_advance n), rfl,
    sequential_advance rfl rfl rfl⟩

theorem exec_movRR (dst src : Reg) (s : State) :
    exec (.movRR dst src) s = .next ((s.setReg dst (s.reg src)).advance 1) := rfl

theorem exec_mviR (dst : Reg) (v : Byte) (s : State) : exec (.mviR dst v) s = .next ((s.setReg dst v).advance 2) := rfl

theorem exec_movRM_of_read {v : Byte} (h : s.mem.read s.hl = some v) (dst : Reg) :
    exec (.movRM dst) s = .next ((s.setReg dst v).advance 1) := loadM_of_some h _

theorem exec_lda_of_read {v : Byte} {dir : Word} (h : s.mem.read dir = some v) :
    exec (.lda dir) s = .next ((s.setReg .a v).advance 3) := loadByte_of_some h _

theorem exec_ldax_of_read {v : Byte} {pair : Pair} (h : s.mem.read (s.pair pair) = some v) :
    exec (.ldax pair) s = .next ((s.setReg .a v).advance 1) := loadByte_of_some h _

theorem exec_movMR (src : Reg) (s : State) :
    exec (.movMR src) s = .next ((s.store s.hl (s.reg src)).advance 1) := rfl

theorem exec_mviM (v : Byte) (s : State) : exec (.mviM v) s = .next ((s.store s.hl v).advance 2) := rfl

theorem exec_sta (dir : Word) (s : State) : exec (.sta dir) s = .next ((s.store dir (s.reg .a)).advance 3) := rfl

theorem exec_stax (pair : Pair) (s : State) :
    exec (.stax pair) s = .next ((s.store (s.pair pair) (s.reg .a)).advance 1) := rfl

theorem exec_lhld_of_reads {lo hi : Byte} {dir : Word} (hlo : s.mem.read dir = some lo)
    (hhi : s.mem.read (dir + 1) = some hi) :
    exec (.lhld dir) s = .next ((s.setPair .hl (joinBytes hi lo)).advance 3) :=
  (loadByte_of_some hlo _).trans (loadByte_of_some hhi _)

theorem exec_shld (dir : Word) (s : State) :
    exec (.shld dir) s = .next (((s.store dir (s.reg .l)).store (dir + 1) (s.reg .h)).advance 3) := rfl

/-- LDAX and STAX have an encoding for BC and DE only (R64). -/
theorem isIndex_of_bc_or_de {pair : Pair} (h : pair = .bc ∨ pair = .de) : pair.isIndex = true := by
  rcases h with rfl | rfl <;> rfl

end Transfer

/-! ## XCHG -/

/-- The exchange of HL with DE that XCHG performs before PC moves on (R113); `exec_xchg` ties it to the model. -/
def State.exchangeHlDe (s : State) : State := (s.setPair .hl (s.pair .de)).setPair .de (s.pair .hl)

theorem exec_xchg (s : State) : exec .xchg s = .next (s.exchangeHlDe.advance 1) := rfl

theorem State.exchangeHlDe_advance (s : State) (n : Nat) :
    (s.advance n).exchangeHlDe = s.exchangeHlDe.advance n := rfl

@[simp] theorem State.exchangeHlDe_reg_h (s : State) : s.exchangeHlDe.reg .h = s.reg .d := State.highByte_pair_de s
@[simp] theorem State.exchangeHlDe_reg_l (s : State) : s.exchangeHlDe.reg .l = s.reg .e := State.lowByte_pair_de s
@[simp] theorem State.exchangeHlDe_reg_d (s : State) : s.exchangeHlDe.reg .d = s.reg .h := State.highByte_hl s
@[simp] theorem State.exchangeHlDe_reg_e (s : State) : s.exchangeHlDe.reg .e = s.reg .l := State.lowByte_hl s

theorem keeps_exchangeHlDe (s : State) : Keeps [.h, .l, .d, .e] [] s s.exchangeHlDe :=
  (keeps_setPair (by decide) _).trans (keeps_setPair (by decide) _)

/-- The exchange is its own inverse (R113). -/
theorem State.exchangeHlDe_exchangeHlDe (s : State) : s.exchangeHlDe.exchangeHlDe = s := by
  have regs : ∀ r, s.exchangeHlDe.exchangeHlDe.reg r = s.reg r
    | .h | .l | .d | .e => by simp
    | .b | .c | .a => rfl
  exact State.ext_reg regs rfl rfl rfl rfl rfl rfl rfl rfl rfl rfl rfl rfl

theorem State.advance_advance (s : State) (m n : Nat) : (s.advance m).advance n = s.advance (m + n) := by
  simp only [State.advance, State.nextPc, State.jump, BitVec.ofNat_add, BitVec.add_assoc]

theorem exec_xchg_after_xchg (s : State) : exec .xchg (s.exchangeHlDe.advance 1) = .next (s.advance 2) := by
  rw [exec_xchg, State.exchangeHlDe_advance, State.exchangeHlDe_exchangeHlDe, State.advance_advance]

/-! ## The statements of the transfer family -/

/-- Settles O17: the frames are those of one pair write and of two stores, the second of which spares the byte at dir. -/
theorem lhldAndShldMoveHlLowByteFirst : Obligations.LhldAndShldMoveHlLowByteFirst := by
  intro s dir
  refine ⟨⟨⟨rfl, rfl, fun _ => rfl, rfl⟩, fun lo hi hlo hhi => ?lhld⟩, ⟨rfl, rfl, fun _ => rfl, rfl⟩, ?shld⟩
  case lhld =>
    exact ⟨_, exec_lhld_of_reads hlo hhi, lowByte_joinBytes hi lo, highByte_joinBytes hi lo,
      (keeps_setPair (pair := .hl) (List.Subset.refl _) _).trans (keeps_advance 3), rfl, sequential_advance rfl rfl rfl⟩
  case shld =>
    have low : ((s.store dir (s.reg .l)).store (dir + 1) (s.reg .h)).mem.read dir = some (s.reg .l) :=
      (Memory.read_write_other _ _ (add_one_ne_self dir).symm).trans (Memory.read_write_same _ _ _)
    exact ⟨_, exec_shld dir s, low, Memory.read_write_same _ _ _,
      ((keeps_store (by simp) _).trans (keeps_store (by simp) _)).trans (keeps_advance 3), rfl,
      sequential_advance rfl rfl rfl⟩

/-- Settles O13: both meanings are one register write. -/
theorem movAndMviWriteOneRegister : Obligations.MovAndMviWriteOneRegister := fun s dst src v =>
  ⟨⟨⟨rfl, rfl, fun _ => rfl, rfl⟩, writesReg_of_exec (exec_movRR dst src s)⟩,
    ⟨rfl, rfl, fun _ => rfl, rfl⟩, writesReg_of_exec (exec_mviR dst v s)⟩

/-- Settles O14: once the byte at the address is known, each load is one register write. -/
theorem loadsReadTheByteAtTheirAddress : Obligations.LoadsReadTheByteAtTheirAddress := by
  intro s v
  refine ⟨fun dst => ?movRM, fun dir => ?lda, fun pair hpair => ?ldax⟩
  case movRM => exact ⟨⟨rfl, rfl, fun _ => rfl, rfl⟩, fun h => writesReg_of_exec (exec_movRM_of_read h dst)⟩
  case lda => exact ⟨⟨rfl, rfl, fun _ => rfl, rfl⟩, fun h => writesReg_of_exec (exec_lda_of_read h)⟩
  case ldax =>
    exact ⟨⟨isIndex_of_bc_or_de hpair, rfl, fun _ => rfl, rfl⟩, fun h => writesReg_of_exec (exec_ldax_of_read h)⟩

/-- Settles O15: each meaning is one store. -/
theorem storesWriteOneByteAtTheirAddress : Obligations.StoresWriteOneByteAtTheirAddress := by
  intro s
  refine ⟨fun src => ?movMR, fun v => ?mviM, fun dir => ?sta, fun pair hpair => ?stax⟩
  case movMR => exact ⟨⟨rfl, rfl, fun _ => rfl, rfl⟩, writesByte_of_exec (exec_movMR src s)⟩
  case mviM => exact ⟨⟨rfl, rfl, fun _ => rfl, rfl⟩, writesByte_of_exec (exec_mviM v s)⟩
  case sta => exact ⟨⟨rfl, rfl, fun _ => rfl, rfl⟩, writesByte_of_exec (exec_sta dir s)⟩
  case stax =>
    exact ⟨⟨isIndex_of_bc_or_de hpair, rfl, fun _ => rfl, rfl⟩, writesByte_of_exec (exec_stax pair s)⟩

/-- Settles O18: the four registers are the halves of the exchanged pairs, and the exchange undoes itself. -/
theorem xchgExchangesHlWithDe : Obligations.XchgExchangesHlWithDe := fun s =>
  ⟨⟨rfl, rfl, fun _ => rfl, rfl⟩, s.exchangeHlDe.advance 1, exec_xchg s, s.exchangeHlDe_reg_h, s.exchangeHlDe_reg_l,
    s.exchangeHlDe_reg_d, s.exchangeHlDe_reg_e, (keeps_exchangeHlDe s).trans (keeps_advance 1), rfl,
    sequential_advance rfl rfl rfl, exec_xchg_after_xchg s⟩

end Sys2Proof.Machine

namespace Sys2Proof.Machine

/-! ## The meanings of the pair arithmetic instructions: INX, DCX and DAD -/

section PairArithmetic

variable {s : State}

theorem exec_inx (pair : Pair) (s : State) :
    exec (.inx pair) s = .next ((s.setPair pair (s.pair pair + 1)).advance 1) := rfl

theorem exec_dcx (pair : Pair) (s : State) :
    exec (.dcx pair) s = .next ((s.setPair pair (s.pair pair - 1)).advance 1) := rfl

theorem exec_dad (pair : Pair) (s : State) :
    exec (.dad pair) s =
      .next (((s.setPair .hl (add16 s.hl (s.pair pair)).1).setCy (add16 s.hl (s.pair pair)).2).advance 1) := rfl

theorem keeps_setCy {rs : List Reg} {addrs : List Word} (c : Bool) : Keeps rs addrs s (s.setCy c) where
  regs _ _ := rfl
  mem _ _ := rfl
  outside := ⟨rfl, rfl, rfl, rfl, rfl, rfl, rfl⟩

/-- An instruction whose meaning is one pair write, the number written being `m`. -/
theorem writesPair_of_exec {i : Instr} {pair : Pair} {w : Word} {m n : Nat} (hw : w.toNat = m)
    (h : exec i s = .next ((s.setPair pair w).advance n)) :
    ∃ t, exec i s = .next t ∧ (t.pair pair).toNat = m ∧ Keeps (pairRegs pair) [] s t ∧
      (pair ≠ .sp → t.sp = s.sp) ∧ t.flags = s.flags ∧ t.pc = s.nextPc n ∧ t.ctl = s.ctl := by
  refine ⟨_, h, ?value, (keeps_setPair (List.Subset.refl _) w).trans (keeps_advance n),
    State.setPair_sp_of_ne s w, State.setPair_flags s pair w, ?pc, State.setPair_ctl s pair w⟩
  case value => rw [State.pair_advance, State.pair_setPair_same, hw]
  case pc => rw [State.advance_pc, State.nextPc, State.setPair_pc, State.nextPc]

/-- 1 less is 65535 more modulo 2^16 (R138). -/
theorem toNat_sub_one (w : Word) : (w - 1).toNat = (w.toNat + 65535) % 65536 := by
  rw [BitVec.toNat_sub, Nat.add_comm]
  rfl

end PairArithmetic

/-! ## The statements about pair arithmetic -/

/-- Settles O23: both meanings are one pair write. -/
theorem inxAndDcxCountAPair : Obligations.InxAndDcxCountAPair := fun s pair =>
  ⟨⟨⟨rfl, rfl, fun _ => rfl, rfl⟩, writesPair_of_exec (BitVec.toNat_add (s.pair pair) 1) (exec_inx pair s)⟩,
    ⟨rfl, rfl, fun _ => rfl, rfl⟩, writesPair_of_exec (toNat_sub_one (s.pair pair)) (exec_dcx pair s)⟩

/-- Settles O24: the meaning is a write of HL, then of CY, with the two halves of the 17-bit sum. -/
theorem dadAddsToHl : Obligations.DadAddsToHl := by
  intro s pair
  refine ⟨⟨rfl, rfl, fun _ => rfl, rfl⟩, _, exec_dad pair s, ?sum, rfl,
    ((keeps_setPair (pair := .hl) (List.Subset.refl _) _).trans (keeps_setCy _)).trans (keeps_advance 1),
    sequential_advance rfl rfl rfl⟩
  case sum => rw [State.pair_advance, State.pair_setCy, State.pair_setPair_same, add16_fst_toNat, State.pair_hl]

end Sys2Proof.Machine

namespace Sys2Proof.Machine

/-! ## The complement of A: CMA -/

section Complement

variable (s : State)

theorem exec_cma : exec .cma s = .next ((s.setAcc (~~~s.acc)).advance 1) := rfl

theorem State.setAcc_advance (v : Byte) (n : Nat) : (s.advance n).setAcc v = (s.setAcc v).advance n := rfl

/-- Of two writes of A the second alone remains. -/
@[simp] theorem State.setAcc_setAcc (v w : Byte) : (s.setAcc v).setAcc w = s.setAcc w :=
  congrArg (fun x => { s with regs := x }) (Regs.set_set s.regs .a v w)

/-- Writing A its own content changes nothing. -/
@[simp] theorem State.setAcc_acc : s.setAcc s.acc = s :=
  congrArg (fun x => { s with regs := x }) (Regs.set_get s.regs .a)

/-- The second CMA complements the complement, so A is as it was (R170). -/
theorem exec_cma_after_cma : exec .cma ((s.setAcc (~~~s.acc)).advance 1) = .next (s.advance 2) := by
  rw [exec_cma, State.acc_advance, State.acc_setAcc, BitVec.not_not, State.setAcc_advance, State.setAcc_setAcc,
    State.setAcc_acc, State.advance_advance]

end Complement

/-- Settles O29: the meaning is one write of A with its complement, and complementing twice undoes itself. -/
theorem cmaInvertsA : Obligations.CmaInvertsA := by
  intro s
  refine ⟨⟨rfl, rfl, fun _ => rfl, rfl⟩, _, exec_cma s, fun k hk => ?bits,
    (keeps_setReg (List.mem_singleton_self Reg.a) _).trans (keeps_advance 1), rfl, sequential_advance rfl rfl rfl,
    exec_cma_after_cma s⟩
  case bits => rw [State.acc_advance, State.acc_setAcc, BitVec.getLsbD_not, decide_eq_true hk, Bool.true_and]

end Sys2Proof.Machine

namespace Sys2Proof.Machine

/-! ## The carry instructions: CMC and STC -/

section Carry

variable {s : State}

theorem exec_cmc (s : State) : exec .cmc s = .next ((s.setCy (!s.flags.cy)).advance 1) := rfl

theorem exec_stc (s : State) : exec .stc s = .next ((s.setCy true).advance 1) := rfl

/-- An instruction whose meaning is one write of CY keeps the other flags and every register and byte (R180). -/
theorem writesCarry_of_exec {i : Instr} {c : Bool} {n : Nat} (h : exec i s = .next ((s.setCy c).advance n)) :
    ∃ t, exec i s = .next t ∧ t.flags = { s.flags with cy := c } ∧ Keeps [] [] s t ∧ Sequential n s t :=
  ⟨_, h, (State.advance_flags _ n).trans (State.setCy_flags s c), (keeps_setCy c).trans (keeps_advance n),
    sequential_advance rfl rfl rfl⟩

end Carry

/-- Settles O31: both meanings are one write of CY. -/
theorem cmcAndStcWriteCarryOnly : Obligations.CmcAndStcWriteCarryOnly := fun s =>
  ⟨⟨⟨rfl, rfl, fun _ => rfl, rfl⟩, writesCarry_of_exec (exec_cmc s)⟩,
    ⟨rfl, rfl, fun _ => rfl, rfl⟩, writesCarry_of_exec (exec_stc s)⟩

end Sys2Proof.Machine

namespace Sys2Proof.Machine

/-! ## The unconditional jumps: JMP and PCHL -/

theorem exec_jmp (dir : Word) (s : State) : exec (.jmp dir) s = .next (s.jump dir) := rfl

/-- PCHL is defined in every state, whatever memory lists at the address in HL (R199). -/
theorem exec_pchl (s : State) : exec .pchl s = .next (s.jump s.hl) := rfl

/-- The jump to HL, H being the high byte of the target (R11, R199). -/
theorem State.jump_hl (s : State) : s.jump s.hl = { s with pc := s.reg .h ++ s.reg .l } := by
  rw [State.hl_eq, State.jump, joinBytes]

/-- Settles O33: both meanings are one jump, which writes PC alone; the target of PCHL is H and L joined. -/
theorem jmpAndPchlSetPc : Obligations.JmpAndPchlSetPc := by
  intro s dir
  refine ⟨⟨⟨rfl, rfl, fun _ => rfl, rfl⟩, ?jmp⟩, ⟨rfl, rfl, fun _ => rfl, rfl⟩, ?pchl⟩
  case jmp => exact exec_jmp dir s
  case pchl => rw [exec_pchl, State.jump_hl]

end Sys2Proof.Machine

namespace Sys2Proof.Machine

/-! ## The stack: PUSH, POP, XTHL and SPHL -/

section Stack

variable {rs : List Reg} {addrs : List Word} {s t u : State}

/-- PUSH and POP have an encoding for BC, DE and HL (R64); the fourth code is PSW. -/
theorem Pair.isStack_of_ne_sp {pair : Pair} (h : pair ≠ .sp) : pair.isStack = true := by
  cases pair with
  | bc | de | hl => rfl
  | sp => exact absurd rfl h

theorem keeps_setSp (w : Word) : Keeps rs addrs s (s.setSp w) where
  regs _ _ := rfl
  mem _ _ := rfl
  outside := ⟨rfl, rfl, rfl, rfl, rfl, rfl, rfl⟩

theorem keeps_push16 (high : s.sp - 1 ∈ addrs) (low : s.sp - 2 ∈ addrs) (w : Word) :
    Keeps rs addrs s (s.push16 w) :=
  ((keeps_store high _).trans (keeps_store low _)).trans (keeps_setSp _)

theorem pushed_push16 (s : State) (w : Word) : Pushed s (s.push16 w) w :=
  ⟨State.push16_high s w, State.push16_low s w, rfl⟩

theorem Pushed.advance {w : Word} (h : Pushed s t w) (n : Nat) : Pushed s (t.advance n) w := ⟨h.high, h.low, h.sp⟩

theorem exec_pushRp (pair : Pair) (s : State) :
    exec (.pushRp pair) s = .next ((s.push16 (s.pair pair)).advance 1) := rfl

theorem exec_popRp_of_top {lo hi : Byte} (top : topOfStack s lo hi) (pair : Pair) :
    exec (.popRp pair) s = .next (((s.setSp (s.sp + 2)).setPair pair (joinBytes hi lo)).advance 1) :=
  pop16_of_some top.1 top.2 fun w t => .next ((t.setPair pair w).advance 1)

/-- What was changed on the way and has its old content at the end is kept. -/
theorem Keeps.of_restored (h : Keeps rs addrs s t) (regs : ∀ r ∈ rs, t.reg r = s.reg r)
    (mem : ∀ a ∈ addrs, t.mem.read a = s.mem.read a) : Keeps [] [] s t where
  regs r _ := if hr : r ∈ rs then regs r hr else h.regs r hr
  mem a _ := if ha : a ∈ addrs then mem a ha else h.mem a ha
  outside := h.outside

theorem Sequential.trans {m n : Nat} (hst : Sequential m s t) (htu : Sequential n t u) : Sequential (m + n) s u where
  sp := htu.sp.trans hst.sp
  pc := by rw [htu.pc, hst.pc, BitVec.add_assoc, BitVec.ofNat_add]
  ctl := htu.ctl.trans hst.ctl

/-- What one XTHL does to a state whose SP points at `lo` and `hi` (R215). -/
structure ExchangesTop (s t : State) (lo hi : Byte) : Prop where
  regL : t.reg .l = lo
  regH : t.reg .h = hi
  top : topOfStack t (s.reg .l) (s.reg .h)
  keeps : Keeps [.h, .l] [s.sp, s.sp + 1] s t
  flags : t.flags = s.flags
  seq : Sequential 1 s t

/-- The store at SP comes after the store at SP + 1 and spares it. -/
theorem exec_xthl_of_top {lo hi : Byte} (top : topOfStack s lo hi) :
    ∃ t, exec .xthl s = .next t ∧ ExchangesTop s t lo hi := by
  obtain ⟨hlo, hhi⟩ := top
  refine ⟨_, (loadByte_of_some hlo _).trans (loadByte_of_some hhi _), ?_⟩
  exact {
    regL := lowByte_joinBytes hi lo
    regH := highByte_joinBytes hi lo
    top := ⟨Memory.read_write_same _ _ _,
      (Memory.read_write_other _ _ (add_one_ne_self s.sp)).trans (Memory.read_write_same _ _ _)⟩
    keeps := (((keeps_store (by simp) _).trans (keeps_store (by simp) _)).trans
      (keeps_setPair (pair := .hl) (List.Subset.refl _) _)).trans (keeps_advance 1)
    flags := rfl
    seq := sequential_advance rfl rfl rfl }

/-- Exchanging with the exchanged bytes restores L, H and the two bytes at SP, and nothing else had changed. -/
theorem ExchangesTop.keeps_twice {lo hi : Byte} (top : topOfStack s lo hi) (first : ExchangesTop s t lo hi)
    (second : ExchangesTop t u (s.reg .l) (s.reg .h)) : Keeps [] [] s u := by
  have sp : u.sp = s.sp := second.seq.sp.trans first.seq.sp
  have frame : Keeps [.h, .l] [s.sp, s.sp + 1] t u := first.seq.sp ▸ second.keeps
  obtain ⟨low, high⟩ : topOfStack u lo hi := first.regL ▸ first.regH ▸ second.top
  rw [sp] at low high
  refine (first.keeps.trans frame).of_restored ?regs ?mem
  case regs => simp [second.regH, second.regL]
  case mem =>
    exact List.forall_mem_cons.mpr
      ⟨low.trans top.1.symm, List.forall_mem_singleton.mpr (high.trans top.2.symm)⟩

theorem exec_sphl (s : State) : exec .sphl s = .next ((s.setSp s.hl).advance 1) := rfl

/-- The write of HL to SP, H being the high byte (R11, R216). -/
theorem State.setSp_hl (s : State) : s.setSp s.hl = { s with sp := s.reg .h ++ s.reg .l } := by
  rw [State.hl_eq, State.setSp, joinBytes]

end Stack

/-! ## The statements about the stack -/

/-- Settles O39: the meaning is one push of the pair. -/
theorem pushStoresThePair : Obligations.PushStoresThePair := fun s pair hpair =>
  ⟨⟨Pair.isStack_of_ne_sp hpair, rfl, fun _ => rfl, rfl⟩, _, exec_pushRp pair s, (pushed_push16 s _).advance 1, rfl,
    (keeps_push16 (by simp) (by simp) _).trans (keeps_advance 1), rfl, rfl⟩

/-- Settles O41: once the two bytes at SP are known, the meaning is a write of SP and one of the pair. -/
theorem popLoadsThePair : Obligations.PopLoadsThePair := by
  intro s pair lo hi hpair
  refine ⟨⟨Pair.isStack_of_ne_sp hpair, rfl, fun _ => rfl, rfl⟩, fun top => ⟨_, exec_popRp_of_top top pair, ?value,
    State.setPair_sp_of_ne _ _ hpair, ?pc,
    ((keeps_setSp _).trans (keeps_setPair (List.Subset.refl _) _)).trans (keeps_advance 1),
    State.setPair_flags _ pair _, State.setPair_ctl _ pair _⟩⟩
  case value => rw [State.pair_advance, State.pair_setPair_same, joinBytes]
  case pc =>
    rw [State.advance_pc, State.nextPc, State.setPair_pc, State.setSp_pc]
    rfl

/-- Settles O42: the second XTHL starts with the exchanged bytes at SP, so it undoes the first. -/
theorem xthlExchangesAndSphlLoads : Obligations.XthlExchangesAndSphlLoads := by
  intro s lo hi
  refine ⟨⟨⟨rfl, rfl, fun _ => rfl, rfl⟩, fun top => ?xthl⟩, ⟨rfl, rfl, fun _ => rfl, rfl⟩, ?sphl⟩
  case xthl =>
    obtain ⟨t, ht, first⟩ := exec_xthl_of_top top
    obtain ⟨u, hu, second⟩ := exec_xthl_of_top first.top
    exact ⟨t, ht, first.regL, first.regH, first.top, first.keeps, first.flags, first.seq, u, hu,
      ExchangesTop.keeps_twice top first second, second.flags.trans first.flags, first.seq.trans second.seq⟩
  case sphl =>
    rw [exec_sphl, State.setSp_hl]
    rfl

end Sys2Proof.Machine

namespace Sys2Proof.Machine

/-! ## NOP -/

theorem exec_nop (s : State) : exec .nop s = .next (s.advance 1) := rfl

/-- The end of a one-byte instruction is a write of PC alone (R7). -/
theorem State.advance_one (s : State) : s.advance 1 = { s with pc := s.pc + 1 } := rfl

/-- Settles O47: the meaning is the advance of PC past one byte, with no update before it. -/
theorem nopOnlyAdvancesPc : Obligations.NopOnlyAdvancesPc := by
  intro s
  refine ⟨⟨rfl, rfl, fun _ => rfl, rfl⟩, ?next⟩
  case next => rw [exec_nop, State.advance_one]

end Sys2Proof.Machine

namespace Sys2Proof

/-! ## The decoder: each row of the opcode table against the encoder -/

/-- How the decoder uses a row of the opcode table: what the row builds from a first byte that fits it is well-formed
and has those bytes as its encoding, and whether it builds an instruction depends on the first byte only. -/
structure OpRow.Sound (row : OpRow) : Prop where
  encodes : ∀ b lo hi i, b &&& row.mask = row.pattern → row.build b lo hi = some i →
    i.wellFormed = true ∧ encode i = b :: [lo, hi].take (row.length.getD 1 - 1)
  builds : ∀ b lo hi, (row.build b lo hi).isSome = (row.build b 0 0).isSome

/-- A row with every bit of the first byte fixed. -/
theorem OpRow.Sound.fixed {p : Byte} {n : Option Nat} {f : Byte → Byte → Instr}
    (h : ∀ lo hi, (f lo hi).wellFormed = true ∧ encode (f lo hi) = p :: [lo, hi].take (n.getD 1 - 1)) :
    OpRow.Sound ⟨0xFF#8, p, n, fun _ lo hi => some (f lo hi)⟩ where
  encodes b lo hi i hb hi' := by
    obtain rfl : b = p := (BitVec.and_allOnes (x := b)).symm.trans hb
    obtain rfl : f lo hi = i := Option.some.inj hi'
    exact h lo hi
  builds _ _ _ := rfl

/-! ### The fields of a first byte -/

theorem or_pairBits {b p : Byte} (h : b &&& 0xCF#8 = p) : p ||| pairBits (pairField b) = b :=
  pairBits_pairField b ▸ or_and_not_of_and_eq h

theorem or_dstBits {b p : Byte} {r : Reg} (h : b &&& 0xC7#8 = p) (hr : dstReg b = some r) : p ||| dstBits r = b :=
  dstBits_of_dstReg hr ▸ or_and_not_of_and_eq h

theorem or_srcBits {b p : Byte} {r : Reg} (h : b &&& 0xF8#8 = p) (hr : srcReg b = some r) : p ||| srcBits r = b :=
  srcBits_of_srcReg hr ▸ or_and_not_of_and_eq h

/-- MOV r1, r2 has both register fields; together they are bits 5 to 0. -/
theorem or_dstBits_or_srcBits {b p : Byte} {dst src : Reg} (h : b &&& 0xC0#8 = p) (hd : dstReg b = some dst)
    (hs : srcReg b = some src) : p ||| dstBits dst ||| srcBits src = b := by
  rw [dstBits_of_dstReg hd, srcBits_of_srcReg hs, BitVec.or_assoc, ← BitVec.and_or_distrib_left]
  exact or_and_not_of_and_eq h

/-- The field NNN of RST is bits 5 to 3. -/
theorem or_rstBits {b p : Byte} (h : b &&& 0xC7#8 = p) : p ||| ((b.extractLsb' 3 3).zeroExtend 8 <<< 3) = b := by
  have all : ∀ b : Byte, (b.extractLsb' 3 3).zeroExtend 8 <<< 3 = b &&& 0x38#8 := by decide +kernel
  exact all b ▸ or_and_not_of_and_eq h

theorem indexPair_eq_some {b : Byte} {pair : Pair} (h : indexPair b = some pair) :
    pair.isIndex = true ∧ pair = pairField b := by
  unfold indexPair at h
  split at h
  · next hi =>
    obtain rfl := Option.some.inj h
    exact ⟨hi, rfl⟩
  · cases h

theorem stackPair_eq_some {b : Byte} {pair : Pair} (h : stackPair b = some pair) :
    pair.isStack = true ∧ pair = pairField b := by
  unfold stackPair at h
  split at h
  · next hs =>
    obtain rfl := Option.some.inj h
    exact ⟨hs, rfl⟩
  · cases h

/-! ### The rows with a field -/

/-- A one-byte row with the field SSS. -/
theorem OpRow.Sound.src {p : Byte} {f : Reg → Instr}
    (h : ∀ r, (f r).wellFormed = true ∧ encode (f r) = [p ||| srcBits r]) :
    OpRow.Sound ⟨0xF8#8, p, some 1, fun b _ _ => (srcReg b).map f⟩ where
  encodes b lo hi i hb hi' := by
    obtain ⟨r, hr, rfl⟩ := Option.map_eq_some_iff.mp hi'
    exact ⟨(h r).1, (h r).2.trans (congrArg (fun x => [x]) (or_srcBits hb hr))⟩
  builds _ _ _ := rfl

/-- A row with the field DDD, and operand bytes that the row's instruction takes as they are. -/
theorem OpRow.Sound.dst {p : Byte} {n : Nat} {f : Byte → Reg → Instr}
    (h : ∀ lo hi r, (f lo r).wellFormed = true ∧ encode (f lo r) = (p ||| dstBits r) :: [lo, hi].take (n - 1)) :
    OpRow.Sound ⟨0xC7#8, p, some n, fun b lo _ => (dstReg b).map (f lo)⟩ where
  encodes b lo hi i hb hi' := by
    obtain ⟨r, hr, rfl⟩ := Option.map_eq_some_iff.mp hi'
    exact ⟨(h lo hi r).1, (h lo hi r).2.trans (congrArg (· :: _) (or_dstBits hb hr))⟩
  builds _ _ _ := by simp only [Option.isSome_map]

/-- A row with the field rp and all four pairs. -/
theorem OpRow.Sound.pair {p : Byte} {n : Nat} {f : Byte → Byte → Pair → Instr}
    (h : ∀ lo hi q, (f lo hi q).wellFormed = true ∧
      encode (f lo hi q) = (p ||| pairBits q) :: [lo, hi].take (n - 1)) :
    OpRow.Sound ⟨0xCF#8, p, some n, fun b lo hi => some (f lo hi (pairField b))⟩ where
  encodes b lo hi i hb hi' := by
    obtain rfl := Option.some.inj hi'
    exact ⟨(h lo hi _).1, (h lo hi _).2.trans (congrArg (· :: _) (or_pairBits hb))⟩
  builds _ _ _ := rfl

/-- The row of LDAX or STAX. -/
theorem OpRow.Sound.index {p : Byte} {f : Pair → Instr}
    (h : ∀ q, (f q).wellFormed = q.isIndex ∧ encode (f q) = [p ||| pairBits q]) :
    OpRow.Sound ⟨0xCF#8, p, some 1, fun b _ _ => (indexPair b).map f⟩ where
  encodes b lo hi i hb hi' := by
    obtain ⟨q, hq, rfl⟩ := Option.map_eq_some_iff.mp hi'
    obtain ⟨hix, rfl⟩ := indexPair_eq_some hq
    exact ⟨(h _).1.trans hix, (h _).2.trans (congrArg (fun x => [x]) (or_pairBits hb))⟩
  builds _ _ _ := rfl

/-- The row of PUSH rp or POP rp. -/
theorem OpRow.Sound.stack {p : Byte} {f : Pair → Instr}
    (h : ∀ q, (f q).wellFormed = q.isStack ∧ encode (f q) = [p ||| pairBits q]) :
    OpRow.Sound ⟨0xCF#8, p, some 1, fun b _ _ => (stackPair b).map f⟩ where
  encodes b lo hi i hb hi' := by
    obtain ⟨q, hq, rfl⟩ := Option.map_eq_some_iff.mp hi'
    obtain ⟨hst, rfl⟩ := stackPair_eq_some hq
    exact ⟨(h _).1.trans hst, (h _).2.trans (congrArg (fun x => [x]) (or_pairBits hb))⟩
  builds _ _ _ := rfl

theorem OpRow.Sound.rst : OpRow.Sound ⟨0xC7#8, 0xC7#8, some 1, fun b _ _ => some (.rst (b.extractLsb' 3 3))⟩ where
  encodes b lo hi i hb hi' := by
    obtain rfl := Option.some.inj hi'
    exact ⟨rfl, congrArg (fun x => [x]) (or_rstBits hb)⟩
  builds _ _ _ := rfl

theorem OpRow.Sound.mov : OpRow.Sound ⟨0xC0#8, 0x40#8, some 1, fun b _ _ =>
    (dstReg b).bind fun dst => (srcReg b).map fun src => .movRR dst src⟩ where
  encodes b lo hi i hb hi' := by
    obtain ⟨dst, hd, hi''⟩ := Option.bind_eq_some_iff.mp hi'
    obtain ⟨src, hs, rfl⟩ := Option.map_eq_some_iff.mp hi''
    exact ⟨rfl, congrArg (fun x => [x]) (or_dstBits_or_srcBits hb hd hs)⟩
  builds _ _ _ := rfl

/-! ### The table -/

open Sys2Proof.Machine in
/-- The encoding of a word operand that was assembled from its bytes (R48, R67). -/
theorem OpRow.Sound.word {p : Byte} {f : Word → Instr}
    (h : ∀ w, (f w).wellFormed = true ∧ encode (f w) = [p, lowByte w, highByte w]) :
    OpRow.Sound ⟨0xFF#8, p, some 3, fun _ lo hi => some (f (joinBytes hi lo))⟩ :=
  .fixed fun lo hi => ⟨(h _).1, (h _).2.trans (by rw [lowByte_joinBytes, highByte_joinBytes]; rfl)⟩

theorem rowsLow_sound : ∀ row ∈ rowsLow, row.Sound := by
  simp only [rowsLow, List.forall_mem_cons]
  refine ⟨.fixed fun _ _ => ⟨rfl, rfl⟩, .word fun _ => ⟨rfl, rfl⟩, .word fun _ => ⟨rfl, rfl⟩,
    .word fun _ => ⟨rfl, rfl⟩, .word fun _ => ⟨rfl, rfl⟩, ?rest⟩
  case rest =>
    repeat refine ⟨.fixed fun _ _ => ⟨rfl, rfl⟩, ?_⟩
    exact List.forall_mem_nil _

theorem rowsBranch_sound : ∀ row ∈ rowsBranch, row.Sound := by
  simp only [rowsBranch, List.forall_mem_cons]
  iterate 18 refine ⟨.word fun _ => ⟨rfl, rfl⟩, ?_⟩
  repeat refine ⟨.fixed fun _ _ => ⟨rfl, rfl⟩, ?_⟩
  exact List.forall_mem_nil _

theorem rowsHigh_sound : ∀ row ∈ rowsHigh, row.Sound := by
  simp only [rowsHigh, List.forall_mem_cons]
  repeat refine ⟨.fixed fun _ _ => ⟨rfl, rfl⟩, ?_⟩
  exact List.forall_mem_nil _

open Sys2Proof.Machine in
theorem rowsFields_sound : ∀ row ∈ rowsFields, row.Sound := by
  simp only [rowsFields, List.forall_mem_cons]
  refine ⟨.pair (f := fun lo hi q => .lxi q (joinBytes hi lo)) fun lo hi q => ⟨rfl, ?lxi⟩,
    .index fun _ => ⟨rfl, rfl⟩, .index fun _ => ⟨rfl, rfl⟩,
    .pair fun _ _ _ => ⟨rfl, rfl⟩, .pair fun _ _ _ => ⟨rfl, rfl⟩, .pair fun _ _ _ => ⟨rfl, rfl⟩,
    .stack fun _ => ⟨rfl, rfl⟩, .stack fun _ => ⟨rfl, rfl⟩, .dst fun _ _ _ => ⟨rfl, rfl⟩, .src fun _ => ⟨rfl, rfl⟩,
    .dst fun _ _ _ => ⟨rfl, rfl⟩, .src fun _ => ⟨rfl, rfl⟩, .src fun _ => ⟨rfl, rfl⟩, .src fun _ => ⟨rfl, rfl⟩,
    .src fun _ => ⟨rfl, rfl⟩, .dst fun _ _ _ => ⟨rfl, rfl⟩, .dst fun _ _ _ => ⟨rfl, rfl⟩, .src fun _ => ⟨rfl, rfl⟩,
    .src fun _ => ⟨rfl, rfl⟩, .src fun _ => ⟨rfl, rfl⟩, .src fun _ => ⟨rfl, rfl⟩, .rst, .mov, List.forall_mem_nil _⟩
  case lxi => exact congrArg₂ (fun x y => [_, x, y]) (lowByte_joinBytes hi lo) (highByte_joinBytes hi lo)

theorem opcodeTable_sound {row : OpRow} (h : row ∈ opcodeTable) : row.Sound := by
  simp only [opcodeTable, List.mem_append] at h
  obtain ((h | h) | h) | h := h
  · exact rowsLow_sound row h
  · exact rowsBranch_sound row h
  · exact rowsHigh_sound row h
  · exact rowsFields_sound row h

end Sys2Proof

namespace Sys2Proof

open Sys2Proof.Machine

/-! ## Decoding and encoding undo each other -/

theorem opcodeLength_of_rowOf {b : Byte} {row : OpRow} (h : rowOf b = some row) : opcodeLength b = row.length := by
  rw [opcodeLength, h, Option.bind_some]

/-- What the three bytes handed to the table decode to has the first `operandCount` operand bytes in its encoding. -/
theorem encode_of_decodeBytes {b lo hi : Byte} {i : Instr} (h : decodeBytes b lo hi = some i) :
    i.wellFormed = true ∧ encode i = b :: [lo, hi].take (operandCount b) := by
  obtain ⟨row, hrow, hbuild⟩ := Option.bind_eq_some_iff.mp h
  obtain ⟨hmem, hfits⟩ := rowOf_eq_some hrow
  rw [operandCount, opcodeLength_of_rowOf hrow]
  exact (opcodeTable_sound hmem).encodes b lo hi i hfits hbuild

/-- Whether a first byte builds an instruction does not depend on the bytes after it. -/
theorem isSome_decodeBytes (b lo hi : Byte) : (decodeBytes b lo hi).isSome = true := by
  have all : ∀ b : Byte, (decodeBytes b 0 0).isSome = true := by decide +kernel
  have hb := all b
  unfold decodeBytes at hb ⊢
  cases hrow : rowOf b with
  | none => simp [hrow] at hb
  | some row =>
    rw [hrow, Option.bind_some] at hb
    rw [Option.bind_some, (opcodeTable_sound (rowOf_eq_some hrow).1).builds, hb]

/-- The bytes that a fetch hands to the table for an instruction: those of its encoding, and 0 for each one beyond its
length. -/
structure InstrBytes (i : Instr) (b lo hi : Byte) : Prop where
  decodes : decodeBytes b lo hi = some i
  loUnused : operandCount b = 0 → lo = 0#8
  hiUnused : operandCount b ≤ 1 → hi = 0#8

/-- The bytes of an instruction in a stream: the first byte and as many operand bytes as it calls for. -/
theorem decode_eq_ok_iff {bytes rest : List Byte} {i : Instr} :
    decode bytes = .ok (i, rest) ↔
      ∃ b lo hi, InstrBytes i b lo hi ∧ bytes = b :: ([lo, hi].take (operandCount b) ++ rest) := by
  constructor
  · intro h
    unfold decode at h
    split at h
    · cases h
    next b tail =>
      split at h
      next after _ _ h0 =>
        split at h
        next j hj =>
          obtain ⟨rfl, rfl⟩ : j = i ∧ after = rest := by simpa using h
          exact ⟨b, 0, 0, ⟨hj, fun _ => rfl, fun _ => rfl⟩, by rw [h0]; rfl⟩
        · cases h
      next lo after h1 =>
        split at h
        next j hj =>
          obtain ⟨rfl, rfl⟩ : j = i ∧ after = rest := by simpa using h
          exact ⟨b, lo, 0, ⟨hj, by omega, fun _ => rfl⟩, by rw [h1]; rfl⟩
        · cases h
      next lo hi after h2 =>
        split at h
        next j hj =>
          obtain ⟨rfl, rfl⟩ : j = i ∧ after = rest := by simpa using h
          exact ⟨b, lo, hi, ⟨hj, by omega, by omega⟩, by rw [h2]; rfl⟩
        · cases h
      · cases h
  · rintro ⟨b, lo, hi, ⟨hd, hlo, hhi⟩, rfl⟩
    have two := operandCount_le_two b
    rcases hn : operandCount b with _ | _ | _ | n
    · obtain rfl := hlo hn
      obtain rfl := hhi (by omega)
      simp [decode, hn, hd]
    · obtain rfl := hhi (by omega)
      simp [decode, hn, hd]
    · simp [decode, hn, hd]
    · omega

/-! ### Every well-formed instruction is decoded from some bytes -/

theorem InstrBytes.one {i : Instr} {b : Byte} (h : decodeBytes b 0 0 = some i) : InstrBytes i b 0 0 :=
  ⟨h, fun _ => rfl, fun _ => rfl⟩

theorem InstrBytes.two {i : Instr} {b lo : Byte} (n : operandCount b = 1) (h : decodeBytes b lo 0 = some i) :
    InstrBytes i b lo 0 := ⟨h, by omega, fun _ => rfl⟩

theorem InstrBytes.three {f : Word → Instr} {b : Byte} {w : Word} (n : operandCount b = 2)
    (h : decodeBytes b (lowByte w) (highByte w) = some (f (joinBytes (highByte w) (lowByte w)))) :
    InstrBytes (f w) b (lowByte w) (highByte w) :=
  ⟨h.trans (by rw [joinBytes_high_low]), by omega, by omega⟩

/-- The bytes of the encoding, 0 standing for those beyond it, are what a fetch hands to the table. -/
theorem instrBytes_encode {i : Instr} (h : i.wellFormed = true) :
    InstrBytes i ((encode i).getD 0 0) ((encode i).getD 1 0) ((encode i).getD 2 0) := by
  cases i with
  | movRR dst src => cases dst <;> cases src <;> exact .one rfl
  | movRM r | movMR r | addR r | adcR r | subR r | sbbR r | inrR r | dcrR r | cmpR r | anaR r | xraR r | oraR r =>
    cases r <;> exact .one rfl
  | inx pair | dcx pair | dad pair => cases pair <;> exact .one rfl
  | ldax pair | stax pair =>
    cases pair with
    | bc | de => exact .one rfl
    | hl | sp => cases h
  | pushRp pair | popRp pair =>
    cases pair with
    | bc | de | hl => exact .one rfl
    | sp => cases h
  | rst n =>
    have all : ∀ n : BitVec 3, decodeBytes ((encode (.rst n)).getD 0 0) 0 0 = some (.rst n) := by decide +kernel
    exact .one (all n)
  | mviR r v =>
    simp only [encode, List.getD_cons_zero, List.getD_cons_succ, List.getD_nil]
    cases r <;> exact .two rfl rfl
  | mviM v | adi v | aci v | sui v | sbi v | cpi v | ani v | xri v | ori v | inPort v | outPort v =>
    simp only [encode, List.getD_cons_zero, List.getD_cons_succ, List.getD_nil]
    exact .two rfl rfl
  | lxi pair w =>
    simp only [encode, List.getD_cons_zero, List.getD_cons_succ]
    cases pair <;> exact .three rfl rfl
  | lda w | sta w | lhld w | shld w | jmp w | jnz w | jz w | jnc w | jc w | jpo w | jpe w | jp w | jm w | call w
  | cnz w | cz w | cnc w | cc w | cpo w | cpe w | cp w | cm w =>
    simp only [encode, List.getD_cons_zero, List.getD_cons_succ]
    exact .three rfl rfl
  | _ => exact .one rfl

/-- The encoding of a well-formed instruction as a fetch reads it. -/
theorem exists_instrBytes {i : Instr} (h : i.wellFormed = true) :
    ∃ b lo hi, InstrBytes i b lo hi ∧ encode i = b :: [lo, hi].take (operandCount b) :=
  ⟨_, _, _, instrBytes_encode h, (encode_of_decodeBytes (instrBytes_encode h).decodes).2⟩

/-- Settles O1: the bytes of the encoding are those the decoder reads, by the case split over the instructions in
`instrBytes_encode`. -/
theorem decodingTheEncodingGivesTheInstruction : Obligations.DecodingTheEncodingGivesTheInstruction := by
  intro i rest hwf
  obtain ⟨b, lo, hi, hbytes, henc⟩ := exists_instrBytes hwf
  rw [decode_eq_ok_iff, henc]
  exact ⟨b, lo, hi, hbytes, rfl⟩

/-- Settles O2: every row of the opcode table builds only instructions whose encoding is the bytes it was given. -/
theorem decodedBytesAreTheEncoding : Obligations.DecodedBytesAreTheEncoding := by
  intro bytes rest i h
  obtain ⟨b, lo, hi, hbytes, rfl⟩ := decode_eq_ok_iff.mp h
  obtain ⟨hwf, henc⟩ := encode_of_decodeBytes hbytes.decodes
  exact ⟨hwf, by rw [henc, List.cons_append]⟩

/-- Settles O3: the lengths by evaluating the table on the 256 first bytes, the terms by `isSome_decodeBytes`. -/
theorem firstByteGivesTheLength : Obligations.FirstByteGivesTheLength := by
  intro b
  refine ⟨?length, isSome_decodeBytes b⟩
  case length =>
    revert b
    decide +kernel

/-- Settles O4: each word is decoded by evaluation. -/
theorem sampleWordsDecode : Obligations.SampleWordsDecode :=
  ⟨rfl, rfl, rfl, rfl, rfl, rfl, rfl, rfl, rfl, rfl⟩

/-! ## Consequences for the bytes of a fetch -/

/-- Two well-formed instructions with one encoding are equal. -/
theorem encode_injective {i j : Instr} (hi : i.wellFormed = true) (hj : j.wellFormed = true)
    (h : encode i = encode j) : i = j := by
  have di := decodingTheEncodingGivesTheInstruction i [] hi
  rw [h, decodingTheEncodingGivesTheInstruction j [] hj] at di
  injection di with e
  exact (congrArg Prod.fst e).symm

/-- The bytes beyond the length of an instruction do not matter to the table. -/
theorem InstrBytes.decodeBytes_eq {i : Instr} {b lo hi lo' hi' : Byte} (h : InstrBytes i b lo hi)
    (htake : [lo', hi'].take (operandCount b) = [lo, hi].take (operandCount b)) : decodeBytes b lo' hi' = some i := by
  obtain ⟨j, hj⟩ := Option.isSome_iff_exists.mp (isSome_decodeBytes b lo' hi')
  obtain ⟨wfi, ei⟩ := encode_of_decodeBytes h.decodes
  obtain ⟨wfj, ej⟩ := encode_of_decodeBytes hj
  rw [hj, encode_injective wfj wfi (by rw [ej, ei, htake])]

end Sys2Proof

namespace Sys2Proof.Machine

/-! ## What any instruction can do -/

section AnyInstruction

variable {i : Instr} {s t u : State} {ws : List Word} {rs : List Word} {res : Result}

/-- The address an access reads, if it reads memory (R45). -/
def Access.readAddr? : Access → Option Word
  | .read a => some a
  | .write _ | .portRead _ | .portWrite _ => none

/-- The address an access writes, if it writes memory (R45). -/
def Access.writeAddr? : Access → Option Word
  | .write a => some a
  | .read _ | .portRead _ | .portWrite _ => none

theorem mem_readAddrs {l : List Access} {a : Word} : a ∈ l.filterMap Access.readAddr? ↔ .read a ∈ l := by
  rw [List.mem_filterMap]
  constructor
  · rintro ⟨x, hx, hxa⟩
    cases x with
    | read b =>
      obtain rfl := Option.some.inj hxa
      exact hx
    | write b | portRead b | portWrite b => cases hxa
  · exact fun h => ⟨_, h, rfl⟩

theorem mem_writeAddrs {l : List Access} {a : Word} : a ∈ l.filterMap Access.writeAddr? ↔ .write a ∈ l := by
  rw [List.mem_filterMap]
  constructor
  · rintro ⟨x, hx, hxa⟩
    cases x with
    | write b =>
      obtain rfl := Option.some.inj hxa
      exact hx
    | read b | portRead b | portWrite b => cases hxa
  · exact fun h => ⟨_, h, rfl⟩

/-- What no instruction does: change a byte outside `ws`, break the form of memory, take back an output event, un-draw a
free value, change a parameter, or end its own step (R245, log 30). -/
structure Within (ws : List Word) (s t : State) : Prop where
  mem : ∀ a, a ∉ ws → t.mem.read a = s.mem.read a
  wf : s.mem.wf → t.mem.wf
  events : s.events <:+ t.events
  draws : s.draws ≤ t.draws
  params : t.params = s.params
  firstFetch : t.firstFetch = s.firstFetch

theorem Within.trans (hst : Within ws s t) (htu : Within ws t u) : Within ws s u where
  mem a ha := (htu.mem a ha).trans (hst.mem a ha)
  wf h := htu.wf (hst.wf h)
  events := hst.events.trans htu.events
  draws := hst.draws.trans htu.draws
  params := htu.params.trans hst.params
  firstFetch := htu.firstFetch.trans hst.firstFetch

/-- An update of registers, flags, SP, PC and control state. -/
theorem within_of_eq (mem : t.mem = s.mem) (events : t.events = s.events) (draws : t.draws = s.draws)
    (params : t.params = s.params) (firstFetch : t.firstFetch = s.firstFetch) : Within ws s t where
  mem _ _ := by rw [mem]
  wf h := mem ▸ h
  events := events ▸ List.suffix_refl _
  draws := draws.ge
  params := params
  firstFetch := firstFetch

theorem within_setAcc (v : Byte) : Within ws s (s.setAcc v) := within_of_eq rfl rfl rfl rfl rfl

theorem within_setFlags (f : Flags) : Within ws s (s.setFlags f) := within_of_eq rfl rfl rfl rfl rfl

theorem within_setCtl (c : Ctl) : Within ws s (s.setCtl c) := within_of_eq rfl rfl rfl rfl rfl

theorem within_setHl (w : Word) : Within ws s (s.setPair .hl w) := within_of_eq rfl rfl rfl rfl rfl

theorem within_store {a : Word} (ha : a ∈ ws) (v : Byte) : Within ws s (s.store a v) where
  mem _ hb := Memory.read_write_other s.mem v (ne_of_mem_of_not_mem ha hb).symm
  wf h := State.store_mem_wf h a v
  events := List.suffix_refl _
  draws := le_rfl
  params := rfl
  firstFetch := rfl

theorem within_stores (a b : Word) (v w : Byte) : Within [a, b] s ((s.store a v).store b w) :=
  (within_store (by simp) v).trans (within_store (by simp) w)

theorem within_push16 (w : Word) : Within [s.sp - 1, s.sp - 2] s (s.push16 w) :=
  (within_stores _ _ _ _).trans (within_of_eq rfl rfl rfl rfl rfl)

theorem within_drew : Within ws s s.drew where
  mem _ _ := rfl
  wf := id
  events := List.suffix_refl _
  draws := Nat.le_succ _
  params := rfl
  firstFetch := rfl

theorem within_emit (e : OutEvent) : Within ws s (s.emit e) where
  mem _ _ := rfl
  wf := id
  events := List.suffix_cons _ _
  draws := le_rfl
  params := rfl
  firstFetch := rfl

theorem within_ioRead (port : Byte) : Within ws s (s.ioRead port).2 where
  mem _ _ := by rw [State.ioRead_mem]
  wf h := by rwa [State.ioRead_mem]
  events := by rw [State.ioRead_events]
  draws := s.draws_le_ioRead port
  params := by rw [State.ioRead_params]
  firstFetch := by rw [State.ioRead_firstFetch]

theorem within_simSerial (v : Byte) : Within ws s (s.simSerial v) := by
  unfold State.simSerial
  split
  · exact (within_setCtl _).trans (within_emit _)
  · exact within_of_eq rfl rfl rfl rfl rfl

/-! ### The control state after an instruction -/

/-- The control fields SIM writes (R231); `sim_ctl` ties it to the model. -/
def Ctl.afterSim (c : Ctl) (v : Byte) : Ctl := { c with
  m75 := if v.getLsbD 3 then v.getLsbD 2 else c.m75
  m65 := if v.getLsbD 3 then v.getLsbD 1 else c.m65
  m55 := if v.getLsbD 3 then v.getLsbD 0 else c.m55
  i75 := !v.getLsbD 4 && c.i75
  sod := if v.getLsbD 6 then v.getLsbD 7 else c.sod }

theorem simMasks_simReset75 (c : Ctl) (v : Byte) :
    (c.simMasks v).simReset75 v = { c.afterSim v with sod := c.sod } := by
  unfold Ctl.simMasks Ctl.simReset75 Ctl.afterSim
  cases v.getLsbD 3 <;> cases v.getLsbD 4 <;> rfl

theorem sim_ctl (s : State) :
    ((s.setCtl ((s.ctl.simMasks s.acc).simReset75 s.acc)).simSerial s.acc).ctl = s.ctl.afterSim s.acc := by
  rw [simMasks_simReset75]
  unfold State.simSerial Ctl.afterSim
  cases s.acc.getLsbD 6 <;> rfl

/-- The control state an instruction leaves: only EI, DI, HLT, RIM and SIM write it (R225 to R231); `exec_runs` ties it
to the model. -/
def ctlAfter (i : Instr) (s : State) : Ctl :=
  match i with
  | .ei => s.ctl.enable s.params.eiDelay
  | .di => s.ctl.disable
  | .hlt => { s.ctl with halted := true }
  | .rim => if s.params.interruptModel = .i8085 then s.ctl.rimClear else s.ctl
  | .sim => s.ctl.afterSim s.acc
  | _ => s.ctl

/-! ### An execution as its reads and what it leaves -/

/-- An execution of `i` that reads the bytes at `rs` in order, each of which it needs, and then goes on having written
at most the bytes at `ws`. -/
inductive Runs (i : Instr) (s : State) (ws : List Word) : List Word → Result → Prop
  | done {t : State} : Within ws s t → t.ctl = ctlAfter i s → Runs i s ws [] (.next t)
  | read {a : Word} {as : List Word} {k : Byte → Result} :
      (∀ v, Runs i s ws as (k v)) → Runs i s ws (a :: as) (loadByte s a k)

theorem Runs.quiet (ctl : t.ctl = ctlAfter i s) (mem : t.mem = s.mem) (events : t.events = s.events)
    (draws : t.draws = s.draws) (params : t.params = s.params) (firstFetch : t.firstFetch = s.firstFetch) :
    Runs i s ws [] (.next t) :=
  .done (within_of_eq mem events draws params firstFetch) ctl

/-- The end of every instruction that does not assign PC. -/
theorem Runs.advance (h : Within ws s t) (ctl : t.ctl = ctlAfter i s) (n : Nat) :
    Runs i s ws [] (.next (t.advance n)) :=
  .done (h.trans (within_of_eq rfl rfl rfl rfl rfl)) ctl

theorem Runs.call (ctl : s.ctl = ctlAfter i s) (ret target : Word) :
    Runs i s [s.sp - 1, s.sp - 2] [] (.next (s.call ret target)) :=
  .done ((within_push16 ret).trans (within_of_eq rfl rfl rfl rfl rfl)) ctl

theorem Runs.jumpIf (ctl : s.ctl = ctlAfter i s) (cond : Cond) (dir : Word) : Runs i s ws [] (jumpIf cond dir s) :=
  jumpIf_eq cond dir s ▸ .quiet ctl rfl rfl rfl rfl rfl

theorem Runs.callIf (ctl : s.ctl = ctlAfter i s) (cond : Cond) (dir : Word) :
    Runs i s ((if s.flags.holds cond then pushAccesses s else []).filterMap Access.writeAddr?)
      ((if s.flags.holds cond then pushAccesses s else []).filterMap Access.readAddr?) (callIf cond dir s) := by
  cases hc : s.flags.holds cond with
  | true => exact callIf_taken hc dir ▸ .call ctl _ _
  | false => exact callIf_untaken hc dir ▸ .quiet ctl rfl rfl rfl rfl rfl

theorem Runs.returnToPopped (ctl : s.ctl = ctlAfter i s) :
    Runs i s [] [s.sp, s.sp + 1] (returnToPopped s) :=
  .read fun _ => .read fun _ => .quiet ctl rfl rfl rfl rfl rfl

theorem Runs.returnIf (ctl : s.ctl = ctlAfter i s) (cond : Cond) :
    Runs i s ((if s.flags.holds cond then popAccesses s else []).filterMap Access.writeAddr?)
      ((if s.flags.holds cond then popAccesses s else []).filterMap Access.readAddr?) (returnIf cond s) := by
  cases hc : s.flags.holds cond with
  | true => exact returnIf_taken hc ▸ .returnToPopped ctl
  | false => exact returnIf_untaken hc ▸ .quiet ctl rfl rfl rfl rfl rfl

theorem Runs.rim : Runs .rim s ws [] (execRim s) := by
  unfold execRim
  split
  · next hm => exact .quiet (if_pos hm).symm rfl rfl rfl rfl rfl
  · next hm =>
    have ctl : ctlAfter .rim s = s.ctl := if_neg (by simp [hm])
    exact .advance ((within_setAcc (Config.rimDraw s.draws)).trans within_drew) ctl.symm 1

theorem Runs.sim : Runs .sim s ws [] (execSim s) :=
  .advance ((within_setCtl _).trans (within_simSerial _)) (sim_ctl s) 1

theorem Runs.inPort (port : Byte) : Runs (.inPort port) s ws [] (execInPort port s) :=
  have ctl : ((s.ioRead port).2.setAcc (s.ioRead port).1).ctl = s.ctl := State.ioRead_ctl s port
  .advance ((within_ioRead port).trans (within_setAcc _)) ctl 2

/-- INR M and DCR M after their read. -/
theorem Runs.countM (ctl : s.ctl = ctlAfter i s) (v : Byte) (f : Flags) :
    Runs i s [s.hl] [] (.next (((s.storeM v).setFlags f).advance 1)) :=
  .advance ((within_store (List.mem_singleton_self _) v).trans (within_setFlags f)) ctl 1

/-- Every assigned instruction reads and writes what the table of R45 lists, and no more. -/
theorem exec_runs (h : assigned i = true) (s : State) :
    Runs i s ((dataAccesses i s).filterMap Access.writeAddr?) ((dataAccesses i s).filterMap Access.readAddr?)
      (exec i s) := by
  cases i with
  | movRR _ _ | mviR _ _ | xchg | addR _ | adi _ | adcR _ | aci _ | subR _ | sui _ | sbbR _ | sbi _ | inrR _ | dcrR _
  | dad _ | daa | cmpR _ | cpi _ | anaR _ | ani _ | xraR _ | xri _ | oraR _ | ori _ | cma | rlc | rrc | ral | rar | cmc
  | stc | jmp _ | pchl | sphl | ei | di | nop | hlt => exact .quiet rfl rfl rfl rfl rfl rfl
  | lxi pair _ | inx pair | dcx pair => cases pair <;> exact .quiet rfl rfl rfl rfl rfl rfl
  | movRM _ | lda _ | ldax _ | addM | adcM | subM | sbbM | cmpM | anaM | xraM | oraM =>
    exact .read fun _ => .quiet rfl rfl rfl rfl rfl rfl
  | lhld _ | popPsw => exact .read fun _ => .read fun _ => .quiet rfl rfl rfl rfl rfl rfl
  | popRp pair => cases pair <;> exact .read fun _ => .read fun _ => .quiet rfl rfl rfl rfl rfl rfl
  | movMR _ | mviM _ | sta _ | stax _ => exact .advance (within_store (List.mem_singleton_self _) _) rfl _
  | shld _ => exact .advance (within_stores _ _ _ _) rfl 3
  | inrM | dcrM => exact .read fun _ => .countM rfl _ _
  | xthl =>
    exact .read fun _ => .read fun _ => .advance ((within_stores _ _ _ _).trans (within_setHl _)) rfl 1
  | pushRp _ => exact .advance (within_push16 _) rfl 1
  | pushPsw => exact .advance ((within_push16 _).trans within_drew) rfl 1
  | jnz dir | jz dir | jnc dir | jc dir | jpo dir | jpe dir | jp dir | jm dir => exact .jumpIf rfl _ dir
  | call dir | rst _ => exact .call rfl _ _
  | cnz dir | cz dir | cnc dir | cc dir | cpo dir | cpe dir | cp dir | cm dir => exact .callIf rfl _ dir
  | ret => exact .returnToPopped rfl
  | rnz | rz | rnc | rc | rpo | rpe | rp | rm => exact .returnIf rfl _
  | inPort port => exact .inPort port
  | outPort _ => exact .advance (within_emit _) rfl 2
  | rim => exact .rim
  | sim => exact .sim
  | unassigned08 | unassigned10 | unassigned18 | unassigned28 | unassigned38 | unassignedCB | unassignedD9
  | unassignedDD | unassignedED | unassignedFD => cases h

/-! ### What follows for every instruction -/

theorem Runs.completes (h : Runs i s ws rs res) (written : ∀ a ∈ rs, (s.mem.read a).isSome) :
    ∃ t, res = .next t := by
  induction h with
  | done => exact ⟨_, rfl⟩
  | @read a as k _ ih =>
    obtain ⟨v, hv⟩ := Option.isSome_iff_exists.mp (written a List.mem_cons_self)
    rw [loadByte_of_some hv]
    exact ih v fun b hb => written b (List.mem_cons_of_mem _ hb)

/-- An execution stops on the first of its bytes that nothing has written. -/
theorem Runs.faults {a : Word} {before after : List Word} (h : Runs i s ws rs res) (hrs : rs = before ++ a :: after)
    (unwritten : s.mem.read a = none) (written : ∀ b ∈ before, (s.mem.read b).isSome) :
    res = .fault (.unwrittenRead a) := by
  induction h generalizing before with
  | done => simp at hrs
  | @read b as k _ ih =>
    cases before with
    | nil =>
      obtain ⟨rfl, -⟩ := List.cons.inj hrs
      exact loadByte_of_none unwritten k
    | cons c before =>
      obtain ⟨rfl, htail⟩ := List.cons.inj hrs
      obtain ⟨v, hv⟩ := Option.isSome_iff_exists.mp (written b List.mem_cons_self)
      rw [loadByte_of_some hv]
      exact ih v htail fun c hc => written c (List.mem_cons_of_mem _ hc)

theorem Runs.of_next (h : Runs i s ws rs res) (hres : res = .next t) : Within ws s t ∧ t.ctl = ctlAfter i s := by
  induction h with
  | done hw hc =>
    obtain rfl := Host.Outcome.next.inj hres
    exact ⟨hw, hc⟩
  | read _ ih =>
    obtain ⟨v, -, hv⟩ := loadByte_eq_next.mp hres
    exact ih v hv

/-- An unassigned first byte has no next state (R75). -/
theorem assigned_of_exec_next (h : exec i s = .next t) : assigned i = true := by
  cases i with
  | unassigned08 | unassigned10 | unassigned18 | unassigned28 | unassigned38 | unassignedCB | unassignedD9
  | unassignedDD | unassignedED | unassignedFD => cases h
  | _ => rfl

theorem within_of_exec (h : exec i s = .next t) : Within ((dataAccesses i s).filterMap Access.writeAddr?) s t :=
  ((exec_runs (assigned_of_exec_next h) s).of_next h).1

theorem ctl_of_exec (h : exec i s = .next t) : t.ctl = ctlAfter i s :=
  ((exec_runs (assigned_of_exec_next h) s).of_next h).2

end AnyInstruction

/-- Settles O10: by induction on the reads of the execution, which are those of the access table. -/
theorem instructionsCompleteUnlessAReadIsUnwritten : Obligations.InstructionsCompleteUnlessAReadIsUnwritten := by
  intro i s hassigned
  have runs := exec_runs hassigned s
  refine ⟨fun written => runs.completes fun a ha => written a (mem_readAddrs.mp ha), ?fault⟩
  case fault =>
    intro a before after hsplit unwritten written
    refine runs.faults (before := before.filterMap Access.readAddr?) (after := after.filterMap Access.readAddr?) ?_
      unwritten fun b hb => written b (mem_readAddrs.mp hb)
    rw [hsplit, List.filterMap_append]
    rfl

/-- Settles O11: an execution stays within the writes of the access table. -/
theorem instructionsWriteOnlyTheListedBytes : Obligations.InstructionsWriteOnlyTheListedBytes :=
  fun _ _ _ h a ha => (within_of_exec h).mem a fun hmem => ha (mem_writeAddrs.mp hmem)

end Sys2Proof.Machine

namespace Sys2Proof.Machine

/-! ## What every step keeps -/

section EveryStep

variable {i : Instr} {s t : State}

theorem isEi_eq_decide (i : Instr) : i.isEi = decide (i = .ei) := by cases i <;> rfl

theorem isEi_iff : i.isEi = true ↔ i = .ei := by rw [isEi_eq_decide, decide_eq_true_iff]

/-! ### The control state -/

/-- No instruction but EI raises IE (R225). -/
theorem ie_of_ctlAfter (h : (ctlAfter i s).ie = true) : s.ctl.ie = true ∨ i = .ei := by
  cases i with
  | ei => exact .inr rfl
  | di => cases h
  | rim =>
    simp only [ctlAfter] at h
    split at h
    · exact .inl (rimClear_ie s.ctl ▸ h)
    · exact .inl h
  | _ => exact .inl h

/-- No instruction but EI raises EI_PENDING (R225). -/
theorem eiPending_of_ctlAfter (h : (ctlAfter i s).eiPending = true) : s.ctl.eiPending = true ∨ i = .ei := by
  cases i with
  | ei => exact .inr rfl
  | di => cases h
  | rim =>
    simp only [ctlAfter] at h
    split at h
    · exact .inl (rimClear_eiPending s.ctl ▸ h)
    · exact .inl h
  | _ => exact .inl h

/-- TRAP_SEEN is cleared only together with TRAP_IE (R26, R230). -/
theorem trapSeen_of_ctlAfter (h : s.ctl.trapIe = true → s.ctl.trapSeen = true)
    (hi : (ctlAfter i s).trapIe = true) : (ctlAfter i s).trapSeen = true := by
  cases i with
  | rim =>
    simp only [ctlAfter] at hi ⊢
    split at hi
    · rw [rimClear_trapIe, Bool.and_eq_true, Bool.not_eq_true'] at hi
      simp [h hi.2] at hi
    · next hm => rw [if_neg hm]; exact h hi
  | _ => exact h hi

/-! ### The invariant -/

theorem inv_sample (h : Inv s) : Inv s.sample := by
  obtain ⟨i75, latch, hctl, -, -⟩ := sample_ctl s
  exact {
    mem := State.sample_mem s ▸ h.mem
    pending := hctl ▸ h.pending
    halted := hctl ▸ h.halted
    trapIe := hctl ▸ h.trapIe
    firstFetch := State.sample_firstFetch s ▸ hctl ▸ h.firstFetch }

/-- The control state of a reset meets the invariant whatever memory holds (R281). -/
theorem inv_of_reset (mem : t.mem.wf) (ctl : t.ctl = Ctl.reset) : Inv t where
  mem := mem
  pending hp := by simp [ctl, Ctl.reset] at hp
  halted _ := by rw [ctl]; rfl
  trapIe ht := by simp [ctl, Ctl.reset] at ht
  firstFetch _ := by rw [ctl]; rfl

theorem trapSeen_of_acknowledge (h : s.ctl.trapIe = true → s.ctl.trapSeen = true) (src : IntSource)
    (hack : (s.ctl.acknowledge src).trapIe = true) : (s.ctl.acknowledge src).trapSeen = true := by
  cases src with
  | trap => rfl
  | rst75 | rst65 | rst55 | intr => exact h hack

/-- An interrupt entry leaves the invariant in every state with the acknowledged control state and a memory in form. -/
theorem inv_of_acknowledge (h : Inv s) {src : IntSource} (mem : t.mem.wf) (ctl : t.ctl = s.ctl.acknowledge src) :
    Inv t where
  mem := mem
  pending hp := by simp [ctl] at hp
  halted _ := by rw [ctl, acknowledge_eiPending]
  trapIe := ctl ▸ trapSeen_of_acknowledge h.trapIe src
  firstFetch _ := by rw [ctl, acknowledge_halted]

theorem inv_acknowledged (h : Inv s) (src : IntSource) (pc : Word) :
    Inv ((s.setCtl (s.ctl.acknowledge src)).jump pc) := inv_of_acknowledge h h.mem rfl

/-- An instruction that a running processor executes, with the end of the instruction. -/
theorem inv_endInstr_of_exec (h : Inv s) (running : s.ctl.halted = false) (hx : exec i s = .next t) :
    Inv (t.endInstr i) where
  mem := (within_of_exec hx).wf h.mem
  pending hp := by
    obtain ⟨-, hei⟩ := (Bool.and_eq_true _ _).mp hp
    obtain rfl := isEi_iff.mp hei
    rw [endInstr_ctl, ctl_of_exec hx]
    rfl
  halted hh := by
    rw [endInstr_ctl, ctl_of_exec hx] at hh ⊢
    cases hei : i.isEi with
    | false => exact Bool.and_false _
    | true =>
      obtain rfl := isEi_iff.mp hei
      exact absurd hh (by simp [ctlAfter, Ctl.enable, running])
  trapIe := by
    rw [endInstr_ctl, ctl_of_exec hx]
    exact trapSeen_of_ctlAfter h.trapIe
  firstFetch hf := nomatch hf

end EveryStep

/-- Settles O8: one case for each of the five kinds of step. -/
theorem everyStepKeepsTheInvariant : Obligations.EveryStepKeepsTheInvariant := by
  intro s t hinv hstep
  have sampled := inv_sample hinv
  obtain ⟨-, rfl⟩ | ⟨-, src, target, -, -, rfl⟩ | ⟨-, -, i, u, -, hx, rfl⟩ | ⟨-, -, -, -, rfl⟩ |
    ⟨-, -, hrun, b, lo, hi, i, u, -, -, hx, rfl⟩ := step_eq_next hstep
  case inl => exact inv_of_reset sampled.mem rfl
  case inr.inl => exact inv_of_acknowledge sampled (State.takeVectored_mem_wf sampled.mem src target) rfl
  case inr.inr.inl =>
    exact inv_endInstr_of_exec (inv_acknowledged sampled .intr _) rfl hx
  case inr.inr.inr.inl => exact sampled
  case inr.inr.inr.inr => exact inv_endInstr_of_exec sampled ((sample_halted s).trans hrun) hx

/-- Settles O9: a step is a sample of the environment followed by at most one entry or one instruction. -/
theorem stepsKeepParametersAndHistory : Obligations.StepsKeepParametersAndHistory := by
  intro s t hstep
  rw [← State.sample_params s, ← State.sample_events s, ← State.sample_draws s]
  obtain ⟨-, rfl⟩ | ⟨-, src, target, -, -, rfl⟩ | ⟨-, -, i, u, -, hx, rfl⟩ | ⟨-, -, -, -, rfl⟩ |
    ⟨-, -, -, b, lo, hi, i, u, -, -, hx, rfl⟩ := step_eq_next hstep
  case inl => exact ⟨rfl, List.suffix_refl _, Nat.le_succ _⟩
  case inr.inl | inr.inr.inr.inl => exact ⟨rfl, List.suffix_refl _, le_rfl⟩
  case inr.inr.inl | inr.inr.inr.inr =>
    have h := within_of_exec hx
    exact ⟨h.params, h.events, h.draws⟩

theorem requestStands_iff {s : State} {src : IntSource} : requestStands s src ↔ s.acceptable src = true := by
  cases src <;> simp [requestStands, State.acceptable, and_assoc]

/-- A maskable request is accepted only while IE is 1 and no EI is pending (R242). -/
theorem enabled_of_accepted {s : State} {src : IntSource} (h : s.accepted = some src) (hsrc : src ≠ .trap) :
    s.ctl.ie = true ∧ s.ctl.eiPending = false := by
  have stands := requestStands_iff.mpr (acceptable_of_accepted h).2
  cases src with
  | trap => exact absurd rfl hsrc
  | rst75 | rst65 | rst55 | intr => exact ⟨stands.1, stands.2.1⟩

theorem decodeBytes_eq_ei {b lo hi : Byte} (h : decodeBytes b lo hi = some .ei) : b = 0xFB#8 :=
  (List.cons.inj (encode_of_decodeBytes h).2).1.symm

/-- Settles O58: of the five kinds of step only the execution of a fetched EI can raise IE, for INTR is accepted with
IE = 1 only. -/
theorem onlyEiEnablesInterrupts : Obligations.OnlyEiEnablesInterrupts := by
  intro s t hstep before after
  obtain ⟨-, rfl⟩ | ⟨-, src, target, -, -, rfl⟩ | ⟨-, hacc, -⟩ | ⟨-, -, -, -, rfl⟩ |
    ⟨-, hacc, -, b, lo, hi, i, u, hb, hd, hx, rfl⟩ := step_eq_next hstep
  case inl => cases after
  case inr.inl => simp at after
  case inr.inr.inl =>
    have enabled := (enabled_of_accepted hacc (by decide)).1
    simp [before] at enabled
  case inr.inr.inr.inl => simp [before] at after
  case inr.inr.inr.inr =>
    rw [endInstr_ctl, ctl_of_exec hx] at after
    obtain hie | rfl := ie_of_ctlAfter after
    · simp [before] at hie
    · exact ⟨decodeBytes_eq_ei hd ▸ hb, hacc⟩

/-- Settles O6: after a reset the first instruction is still to come, so no request is accepted. -/
theorem resetLeavesTheControlState : Obligations.ResetLeavesTheControlState :=
  ⟨rfl, rfl, rfl, rfl, rfl, rfl, rfl, rfl, rfl, rfl, rfl, rfl, fun _ => rfl,
    fun _ _ _ => accepted_firstFetch (State.sample_firstFetch _)⟩

/-- Settles O7: the reset memory is empty and the control state that of a reset. -/
theorem resetMeetsTheInvariant : Obligations.ResetMeetsTheInvariant := inv_of_reset State.reset_mem_wf rfl

/-! ## Sampling and acceptance -/

/-- Settles O52: the two cases of the script. -/
theorem samplingLatchesRisingEdges : Obligations.SamplingLatchesRisingEdges := by
  intro s
  refine ⟨fun h => ?empty, fun e rest h => ?event⟩
  case empty => rw [State.sample, h]
  case event =>
    have rose : (e.lines.trap && !s.lines.trap) = decide (s.lines.trap = false ∧ e.lines.trap = true) := by
      cases e.lines.trap <;> cases s.lines.trap <;> rfl
    simp only [State.sample, h, Ctl.latchEdges, rose, Bool.or_assoc]

theorem intPriority_at (src : IntSource) : intPriority[priorityOf src]? = some src := by cases src <;> rfl

/-- The list holds each source at the place its priority says. -/
theorem priorityOf_of_intPriority {k : Nat} {src : IntSource} (h : intPriority[k]? = some src) :
    priorityOf src = k := by
  obtain ⟨hk, rfl⟩ := List.getElem?_eq_some_iff.mp h
  have all : ∀ k : Fin 5, priorityOf (intPriority[k]) = k := by decide
  exact all ⟨k, hk⟩

/-- The first source of the priority list with a property is the one of highest priority. -/
theorem find_intPriority {p : IntSource → Bool} {src : IntSource} :
    intPriority.find? p = some src ↔
      p src = true ∧ ∀ other, priorityOf other < priorityOf src → ¬ p other = true := by
  rw [List.find?_eq_some_iff_getElem]
  refine and_congr_right fun _ => ⟨?first, fun highest => ?found⟩
  case first =>
    rintro ⟨k, hk, hsrc, before⟩ other hother
    have place := priorityOf_of_intPriority (List.getElem?_eq_some_iff.mpr ⟨hk, hsrc⟩)
    obtain ⟨hlt, hat⟩ := List.getElem?_eq_some_iff.mp (intPriority_at other)
    have notOther := before (priorityOf other) (place ▸ hother)
    rw [hat] at notOther
    simpa using notOther
  case found =>
    obtain ⟨hk, hat⟩ := List.getElem?_eq_some_iff.mp (intPriority_at src)
    refine ⟨priorityOf src, hk, hat, fun j hj => ?_⟩
    have place := priorityOf_of_intPriority (List.getElem?_eq_some_iff.mpr ⟨hj.trans hk, rfl⟩)
    simpa using highest _ (place.symm ▸ hj)

/-- Settles O53: `acceptable` is `requestStands` as a Bool, and the priority list is searched from its head. -/
theorem highestStandingRequestIsAccepted : Obligations.HighestStandingRequestIsAccepted := by
  intro s src
  have search := find_intPriority (p := s.acceptable) (src := src)
  simp only [← requestStands_iff] at search
  rw [State.accepted, ← search]
  cases s.params.interruptModel <;> cases s.firstFetch <;> simp

end Sys2Proof.Machine

namespace Sys2Proof.Machine

/-! ## The accumulator instructions: additions, subtractions, comparisons, counts and logic -/

section Accumulator

variable {rs : List Reg} {addrs : List Word} {s t : State} {i : Instr}

theorem exec_lxi (pair : Pair) (w : Word) (s : State) :
    exec (.lxi pair w) s = .next ((s.setPair pair w).advance 3) := rfl

theorem keeps_setFlags (f : Flags) : Keeps rs addrs s (s.setFlags f) where
  regs _ _ := rfl
  mem _ _ := rfl
  outside := ⟨rfl, rfl, rfl, rfl, rfl, rfl, rfl⟩

/-- The frame of an instruction that writes A and flags. -/
theorem keeps_setAcc_setFlags (v : Byte) (f : Flags) (n : Nat) :
    Keeps [.a] addrs s (((s.setAcc v).setFlags f).advance n) :=
  ((keeps_setReg (List.mem_singleton_self Reg.a) v).trans (keeps_setFlags f)).trans (keeps_advance n)

/-- S, Z and P are the same three functions of the result wherever they are written (R8, R20). -/
theorem szpOf_szp (f : Flags) (v : Byte) : SzpOf (f.szp v) v := ⟨getLsbD_seven_iff v, beq_zero_iff v, parityEven_iff v⟩

theorem szpOf_ofAlu (f : Flags) (o : AluOut) : SzpOf (f.ofAlu o) o.res :=
  ⟨(szpOf_szp f _).s, (szpOf_szp f _).z, (szpOf_szp f _).p⟩

theorem szpOf_ofIncDec (f : Flags) (o : AluOut) : SzpOf (f.ofIncDec o) o.res :=
  ⟨(szpOf_szp f _).s, (szpOf_szp f _).z, (szpOf_szp f _).p⟩

theorem szpOf_ofLogic (f : Flags) (m : LogicAc) (op : LogicOp) (v : Byte) : SzpOf (f.ofLogic m op v) v :=
  ⟨(szpOf_szp f _).s, (szpOf_szp f _).z, (szpOf_szp f _).p⟩

/-! ### Additions -/

theorem addsToAcc_addAcc (s : State) (v : Byte) (cin : Bool) (n : Nat) :
    AddsToAcc s ((s.addAcc v cin).advance n) v cin n where
  acc := add8_res_toNat s.acc v cin
  szp := szpOf_ofAlu s.flags (add8 s.acc v cin)
  carries := ⟨add8_cy_iff s.acc v cin, add8_ac_iff s.acc v cin⟩
  keeps := keeps_setAcc_setFlags _ _ n
  seq := sequential_advance rfl rfl rfl

/-- An instruction whose meaning is one addition to A. -/
theorem addsToAcc_of_exec {v : Byte} {cin : Bool} {n : Nat} (h : exec i s = .next ((s.addAcc v cin).advance n)) :
    ∃ t, exec i s = .next t ∧ AddsToAcc s t v cin n := ⟨_, h, addsToAcc_addAcc s v cin n⟩

/-! ### Subtractions and comparisons -/

theorem subAcOf_sub8 (mode : AcSub) (f : Flags) (a b : Byte) (bin : Bool) :
    subAcOf mode (f.ofAlu (sub8 mode a b bin)) a.toNat b.toNat bin.toNat := by
  cases mode with
  | carry => exact sub8_ac_carry_iff a b bin
  | borrow => exact sub8_ac_borrow_iff a b bin

theorem subFlags_sub8 (mode : AcSub) (f : Flags) (a b : Byte) (bin : Bool) :
    SubFlags mode (f.ofAlu (sub8 mode a b bin)) a.toNat b.toNat bin.toNat (sub8 mode a b bin).res where
  value := sub8_res_toNat mode a b bin
  szp := szpOf_ofAlu f (sub8 mode a b bin)
  cy := sub8_cy_iff mode a b bin
  ac := subAcOf_sub8 mode f a b bin

theorem subtractsFromAcc_of_exec {v : Byte} {bin : Bool} {n : Nat}
    (h : exec i s = .next ((s.subAcc v bin).advance n)) : ∃ t, exec i s = .next t ∧ SubtractsFromAcc s t v bin n :=
  ⟨_, h, subFlags_sub8 s.params.acSub s.flags s.acc v bin, keeps_setAcc_setFlags _ _ n, sequential_advance rfl rfl rfl⟩

/-- The difference of two bytes is 0 exactly when they are equal. -/
theorem sub8_res_eq_zero_iff (mode : AcSub) (a b : Byte) : (sub8 mode a b false).res.toNat = 0 ↔ a = b := by
  have value := sub8_res_toNat mode a b false
  have ha := a.isLt
  have hb := b.isLt
  rw [← BitVec.toNat_inj]
  simp only [Bool.toNat_false] at value
  omega

theorem comparesAcc_of_exec {v : Byte} {n : Nat} (h : exec i s = .next ((s.cmpAcc v).advance n)) :
    ∃ t, exec i s = .next t ∧ ComparesAcc s t v n := by
  have flags := subFlags_sub8 s.params.acSub s.flags s.acc v false
  exact ⟨_, h, {
    flags := ⟨_, flags⟩
    equal := flags.szp.z.trans (sub8_res_eq_zero_iff s.params.acSub s.acc v)
    below := flags.cy
    keeps := (keeps_setFlags _).trans (keeps_advance n)
    seq := sequential_advance rfl rfl rfl }⟩

/-! ### Counts -/

theorem incByte_res_toNat (v : Byte) : (incByte v).res.toNat = (v.toNat + 1) % 256 := add8_res_toNat v 1 false

theorem decByte_res_toNat (mode : AcSub) (v : Byte) : (decByte mode v).res.toNat = (v.toNat + 255) % 256 := by
  have value : ((decByte mode v).res.toNat : Int) = ((v.toNat : Int) - 1 - 0) % 256 := sub8_res_toNat mode v 1 false
  omega

theorem countFlags_incByte (f : Flags) (v : Byte) :
    CountFlags f (f.ofIncDec (incByte v)) (incByte v).res (v.toNat % 16 = 15) where
  szp := szpOf_ofIncDec f _
  ac := by
    have carry : (incByte v).ac = true ↔ 16 ≤ v.toNat % 16 + 1 + 0 := add8_ac_iff v 1 false
    rw [Flags.ofIncDec_ac, carry]
    omega
  cy := Flags.ofIncDec_cy f _

theorem decByte_ac_iff (mode : AcSub) (v : Byte) : (decByte mode v).ac = true ↔ decAc mode v := by
  cases mode with
  | carry =>
    have h : (decByte .carry v).ac = true ↔ ¬ v.toNat % 16 < 1 + 0 := sub8_ac_carry_iff v 1 false
    rw [h, decAc]
    omega
  | borrow =>
    have h : (decByte .borrow v).ac = true ↔ v.toNat % 16 < 1 + 0 := sub8_ac_borrow_iff v 1 false
    rw [h, decAc]
    omega

theorem countFlags_decByte (f : Flags) (mode : AcSub) (v : Byte) :
    CountFlags f (f.ofIncDec (decByte mode v)) (decByte mode v).res (decAc mode v) where
  szp := szpOf_ofIncDec f _
  ac := by rw [Flags.ofIncDec_ac, decByte_ac_iff]
  cy := Flags.ofIncDec_cy f _

/-- INR r or DCR r: `o` is what the instruction computes from the register. -/
theorem countsReg_of_exec {r : Reg} {o : AluOut} {m : Nat} {ac : Prop} (value : o.res.toNat = m)
    (flags : CountFlags s.flags (s.flags.ofIncDec o) o.res ac)
    (h : exec i s = .next (((s.setReg r o.res).setFlags (s.flags.ofIncDec o)).advance 1)) :
    ∃ t, exec i s = .next t ∧ (t.reg r).toNat = m ∧ CountFlags s.flags t.flags (t.reg r) ac ∧ Keeps [r] [] s t ∧
      Sequential 1 s t := by
  have same : (((s.setReg r o.res).setFlags (s.flags.ofIncDec o)).advance 1).reg r = o.res :=
    State.reg_setReg_same s r o.res
  refine ⟨_, h, by rw [same, value], by rw [same]; exact flags, ?_, sequential_advance rfl rfl rfl⟩
  exact ((keeps_setReg (List.mem_singleton_self r) _).trans (keeps_setFlags _)).trans (keeps_advance 1)

/-- INR M or DCR M after its read. -/
theorem countsM_of_exec {o : AluOut} {m : Nat} {ac : Prop} (value : o.res.toNat = m)
    (flags : CountFlags s.flags (s.flags.ofIncDec o) o.res ac)
    (h : exec i s = .next (((s.storeM o.res).setFlags (s.flags.ofIncDec o)).advance 1)) :
    ∃ t w, exec i s = .next t ∧ t.mem.read s.hl = some w ∧ w.toNat = m ∧ CountFlags s.flags t.flags w ac ∧
      Keeps [] [s.hl] s t ∧ Sequential 1 s t :=
  ⟨_, o.res, h, Memory.read_write_same s.mem s.hl o.res, value, flags,
    ((keeps_store (List.mem_singleton_self s.hl) _).trans (keeps_setFlags _)).trans (keeps_advance 1),
    sequential_advance rfl rfl rfl⟩

/-! ### Logic -/

theorem LogicOp.getLsbD_and (a b : Byte) (k : Nat) :
    (LogicOp.and.apply a b).getLsbD k = (a.getLsbD k && b.getLsbD k) := BitVec.getLsbD_and

theorem LogicOp.getLsbD_xor (a b : Byte) (k : Nat) :
    (LogicOp.xor.apply a b).getLsbD k = (a.getLsbD k ^^ b.getLsbD k) := BitVec.getLsbD_xor

theorem LogicOp.getLsbD_or (a b : Byte) (k : Nat) :
    (LogicOp.or.apply a b).getLsbD k = (a.getLsbD k || b.getLsbD k) := BitVec.getLsbD_or

theorem logicAcBit_and (p : LogicAc) : logicAcBit p .and = true := by cases p <;> rfl

theorem logicAcBit_xor (p : LogicAc) : logicAcBit p .xor = orAc p := by cases p <;> rfl

theorem logicAcBit_or (p : LogicAc) : logicAcBit p .or = orAc p := by cases p <;> rfl

theorem logicOnAcc_of_exec {op : LogicOp} {f : Bool → Bool → Bool} {v : Byte} {ac : Bool} {n : Nat}
    (bits : ∀ a b k, (op.apply a b).getLsbD k = f (a.getLsbD k) (b.getLsbD k))
    (hac : logicAcBit s.params.logicAc op = ac) (h : exec i s = .next ((s.logicAcc op v).advance n)) :
    ∃ t, exec i s = .next t ∧ LogicOnAcc s t f v ac n :=
  ⟨_, h, {
    acc := fun k _ => bits s.acc v k
    szp := szpOf_ofLogic s.flags s.params.logicAc op (op.apply s.acc v)
    cy := rfl
    ac := hac
    keeps := keeps_setAcc_setFlags _ _ n
    seq := sequential_advance rfl rfl rfl }⟩

end Accumulator

/-! ## The statements about the accumulator -/

/-- Settles O16: the meaning is one pair write. -/
theorem lxiLoadsThePair : Obligations.LxiLoadsThePair := by
  intro s pair w
  refine ⟨⟨rfl, rfl, fun _ => rfl, rfl⟩, _, exec_lxi pair w s, ?value, ?bc, ?de, ?hl, ?sp,
    (keeps_setPair (List.Subset.refl _) w).trans (keeps_advance 3), State.setPair_sp_of_ne s w,
    State.setPair_flags s pair w, ?pc, State.setPair_ctl s pair w⟩
  case value => rw [State.pair_advance, State.pair_setPair_same]
  case bc | de | hl =>
    rintro rfl
    exact ⟨rfl, rfl⟩
  case sp =>
    rintro rfl
    rfl
  case pc =>
    rw [State.advance_pc, State.nextPc, State.setPair_pc]
    rfl

/-- Settles O19: each meaning is one addition to A, after the read for the two M forms. -/
theorem additionsWriteTheSumAndFlags : Obligations.AdditionsWriteTheSumAndFlags := fun _ _ _ =>
  ⟨⟨⟨rfl, rfl, fun _ => rfl, rfl⟩, addsToAcc_of_exec rfl⟩,
    ⟨⟨rfl, rfl, fun _ => rfl, rfl⟩, fun h => addsToAcc_of_exec (loadM_of_some h _)⟩,
    ⟨⟨rfl, rfl, fun _ => rfl, rfl⟩, addsToAcc_of_exec rfl⟩,
    ⟨⟨rfl, rfl, fun _ => rfl, rfl⟩, addsToAcc_of_exec rfl⟩,
    ⟨⟨rfl, rfl, fun _ => rfl, rfl⟩, fun h => addsToAcc_of_exec (loadM_of_some h _)⟩,
    ⟨rfl, rfl, fun _ => rfl, rfl⟩, addsToAcc_of_exec rfl⟩

/-- Settles O20: each meaning is one subtraction from A, after the read for the two M forms. -/
theorem subtractionsWriteTheDifferenceAndFlags : Obligations.SubtractionsWriteTheDifferenceAndFlags := fun _ _ _ =>
  ⟨⟨⟨rfl, rfl, fun _ => rfl, rfl⟩, subtractsFromAcc_of_exec rfl⟩,
    ⟨⟨rfl, rfl, fun _ => rfl, rfl⟩, fun h => subtractsFromAcc_of_exec (loadM_of_some h _)⟩,
    ⟨⟨rfl, rfl, fun _ => rfl, rfl⟩, subtractsFromAcc_of_exec rfl⟩,
    ⟨⟨rfl, rfl, fun _ => rfl, rfl⟩, subtractsFromAcc_of_exec rfl⟩,
    ⟨⟨rfl, rfl, fun _ => rfl, rfl⟩, fun h => subtractsFromAcc_of_exec (loadM_of_some h _)⟩,
    ⟨rfl, rfl, fun _ => rfl, rfl⟩, subtractsFromAcc_of_exec rfl⟩

/-- Settles O21: each meaning writes the flags of one subtraction and nothing else. -/
theorem compareSetsFlagsAndKeepsA : Obligations.CompareSetsFlagsAndKeepsA := fun _ _ _ =>
  ⟨⟨⟨rfl, rfl, fun _ => rfl, rfl⟩, comparesAcc_of_exec rfl⟩,
    ⟨⟨rfl, rfl, fun _ => rfl, rfl⟩, fun h => comparesAcc_of_exec (loadM_of_some h _)⟩,
    ⟨rfl, rfl, fun _ => rfl, rfl⟩, comparesAcc_of_exec rfl⟩

/-- Settles O22: each meaning is one count, of a register or of the byte at (HL). -/
theorem inrAndDcrCountAByte : Obligations.InrAndDcrCountAByte := by
  intro s r v
  refine ⟨⟨⟨rfl, rfl, fun _ => rfl, rfl⟩, ?inrR⟩, ⟨⟨rfl, rfl, fun _ => rfl, rfl⟩, ?dcrR⟩,
    ⟨⟨rfl, rfl, fun _ => rfl, rfl⟩, fun h => ?inrM⟩, ⟨rfl, rfl, fun _ => rfl, rfl⟩, fun h => ?dcrM⟩
  case inrR => exact countsReg_of_exec (incByte_res_toNat _) (countFlags_incByte _ _) rfl
  case dcrR => exact countsReg_of_exec (decByte_res_toNat _ _) (countFlags_decByte _ _ _) rfl
  case inrM => exact countsM_of_exec (incByte_res_toNat v) (countFlags_incByte _ v) (loadM_of_some h _)
  case dcrM => exact countsM_of_exec (decByte_res_toNat _ v) (countFlags_decByte _ _ v) (loadM_of_some h _)

/-- Settles O28: each meaning is one logical operation on A. -/
theorem logicalInstructionsCombineBits : Obligations.LogicalInstructionsCombineBits := fun _ _ _ =>
  ⟨⟨⟨rfl, rfl, fun _ => rfl, rfl⟩, logicOnAcc_of_exec LogicOp.getLsbD_and (logicAcBit_and _) rfl⟩,
    ⟨⟨rfl, rfl, fun _ => rfl, rfl⟩, fun h =>
      logicOnAcc_of_exec LogicOp.getLsbD_and (logicAcBit_and _) (loadM_of_some h _)⟩,
    ⟨⟨rfl, rfl, fun _ => rfl, rfl⟩, logicOnAcc_of_exec LogicOp.getLsbD_and (logicAcBit_and _) rfl⟩,
    ⟨⟨rfl, rfl, fun _ => rfl, rfl⟩, logicOnAcc_of_exec LogicOp.getLsbD_xor (logicAcBit_xor _) rfl⟩,
    ⟨⟨rfl, rfl, fun _ => rfl, rfl⟩, fun h =>
      logicOnAcc_of_exec LogicOp.getLsbD_xor (logicAcBit_xor _) (loadM_of_some h _)⟩,
    ⟨⟨rfl, rfl, fun _ => rfl, rfl⟩, logicOnAcc_of_exec LogicOp.getLsbD_xor (logicAcBit_xor _) rfl⟩,
    ⟨⟨rfl, rfl, fun _ => rfl, rfl⟩, logicOnAcc_of_exec LogicOp.getLsbD_or (logicAcBit_or _) rfl⟩,
    ⟨⟨rfl, rfl, fun _ => rfl, rfl⟩, fun h =>
      logicOnAcc_of_exec LogicOp.getLsbD_or (logicAcBit_or _) (loadM_of_some h _)⟩,
    ⟨rfl, rfl, fun _ => rfl, rfl⟩, logicOnAcc_of_exec LogicOp.getLsbD_or (logicAcBit_or _) rfl⟩

/-! ## Decimal addition and carry chains -/

section Decimal

variable {s : State}

theorem exec_daa (s : State) : exec .daa s = .next (((s.setAcc (daaAdjust s.acc s.flags.ac s.flags.cy).res).setFlags
    (s.flags.ofDaa s.params.daaFlags (daaAdjust s.acc s.flags.ac s.flags.cy))).advance 1) := rfl

/-- What DAA adds for the low digit (R150); `daaAdjust_res_toNat` ties it to the model. -/
def daaLow (acc : Nat) (ac : Bool) : Nat := if 9 < acc % 16 ∨ ac = true then 6 else 0

/-- What DAA adds for the high digit (R150), `low` having been added for the low one. -/
def daaHigh (acc low : Nat) (cy : Bool) : Nat := if 9 < (acc + low) / 16 ∨ cy = true then 96 else 0

theorem daaAdjust_res_toNat (acc : Byte) (ac cy : Bool) :
    (daaAdjust acc ac cy).res.toNat =
      (acc.toNat + daaLow acc.toNat ac + daaHigh acc.toNat (daaLow acc.toNat ac) cy) % 256 := by
  have low : (if decide (9 < acc.toNat % 16) || ac then 6 else 0) = daaLow acc.toNat ac := by simp [daaLow]
  have high (m : Nat) : (if decide (9 < (acc.toNat + m) / 16) || cy then 96 else 0) = daaHigh acc.toNat m cy := by
    simp [daaHigh]
  rw [← high, ← low]
  exact BitVec.toNat_ofNat _ 8

theorem daaAdjust_cy_iff (acc : Byte) (ac cy : Bool) :
    (daaAdjust acc ac cy).cy = true ↔ daaHigh acc.toNat (daaLow acc.toNat ac) cy ≠ 0 ∨ cy = true := by
  cases cy <;> simp [daaAdjust, daaLow, daaHigh]

theorem daaAdjust_ac_iff (acc : Byte) (ac cy : Bool) :
    (daaAdjust acc ac cy).ac = true ↔ daaLow acc.toNat ac ≠ 0 ∧ 16 ≤ acc.toNat % 16 + daaLow acc.toNat ac := by
  by_cases h : 9 < acc.toNat % 16 ∨ ac = true <;> simp [daaAdjust, daaLow, h]

theorem Flags.ofDaa_source (f : Flags) (o : AluOut) : f.ofDaa .source o = f := rfl

theorem Flags.ofDaa_intel (f : Flags) (o : AluOut) : f.ofDaa .intel o = f.ofAlu o := rfl

end Decimal

/-- Settles O25: the two digit adjustments are `daaLow` and `daaHigh`. -/
theorem daaAdjustsA : Obligations.DaaAdjustsA := by
  intro s
  refine ⟨⟨rfl, rfl, fun _ => rfl, rfl⟩, _, exec_daa s, keeps_setAcc_setFlags _ _ 1, sequential_advance rfl rfl rfl,
    daaLow s.acc.toNat s.flags.ac, daaHigh s.acc.toNat (daaLow s.acc.toNat s.flags.ac) s.flags.cy, rfl, rfl,
    daaAdjust_res_toNat s.acc s.flags.ac s.flags.cy, fun hsource => ?source, fun hintel => ?intel⟩
  case source => rw [State.advance_flags, State.setFlags_flags, hsource, Flags.ofDaa_source]
  case intel =>
    rw [State.advance_flags, State.setFlags_flags, hintel, Flags.ofDaa_intel]
    exact ⟨szpOf_ofAlu s.flags _, daaAdjust_cy_iff s.acc s.flags.ac s.flags.cy,
      daaAdjust_ac_iff s.acc s.flags.ac s.flags.cy⟩

end Sys2Proof.Machine

namespace Sys2Proof.Machine

/-- Packed decimal digits, as numbers. -/
theorem exists_digits (x : Nat) : ∃ hi lo, lo < 10 ∧ x = 10 * hi + lo :=
  ⟨x / 10, x % 10, Nat.mod_lt _ (by decide), (Nat.div_add_mod x 10).symm⟩

/-- Two packed digits and what is above them; 96 more takes the tens above 9 out of the byte. -/
theorem packed_mod {n r high : Nat} (hn : n < 20) (hr : r < 10) (hhigh : high = if 10 ≤ n then 96 else 0) :
    (n * 16 + r + high) % 256 = n % 10 * 16 + r := by
  split at hhigh
  · have tens : n % 10 = n - 10 := by omega
    rw [tens, hhigh]
    omega
  · have tens : n % 10 = n := by omega
    rw [tens, hhigh]
    omega

/-- The decimal correction of a binary sum of two packed decimal numbers and a carry (R150): with the correction of the
low digit the sum is 16 times the high digits and the low one, and that of the high digit takes 160 off modulo 256. -/
theorem daa_of_packed_sum {x1 x0 y1 y0 a cy low high : Nat} (hx1 : x1 < 10) (hx0 : x0 < 10) (hy1 : y1 < 10)
    (hy0 : y0 < 10) (hcy : cy ≤ 1) (ha : a = (x1 * 16 + x0 + (y1 * 16 + y0) + cy) % 256)
    (hlow : low = if 9 < a % 16 ∨ 16 ≤ x0 + y0 + cy then 6 else 0)
    (hhigh : high = if 9 < (a + low) / 16 ∨ 256 ≤ x1 * 16 + x0 + (y1 * 16 + y0) + cy then 96 else 0) :
    ∃ n r, r < 10 ∧ 10 * x1 + x0 + (10 * y1 + y0) + cy = 10 * n + r ∧ (a + low + high) % 256 = n % 10 * 16 + r ∧
      (high ≠ 0 ↔ 10 ≤ n) := by
  obtain ⟨n, r, hr, sum⟩ := exists_digits (10 * x1 + x0 + (10 * y1 + y0) + cy)
  have low_eq : low = if 10 ≤ x0 + y0 + cy then 6 else 0 := by
    rw [hlow]
    exact if_congr (by omega) rfl rfl
  have total : x1 * 16 + x0 + (y1 * 16 + y0) + cy + low = n * 16 + r := by split at low_eq <;> omega
  have high_eq : high = if 10 ≤ n then 96 else 0 := by
    rw [hhigh]
    exact if_congr (by omega) rfl rfl
  have corrected : (a + low + high) % 256 = (n * 16 + r + high) % 256 := by
    rw [ha, Nat.add_assoc, Nat.mod_add_mod, ← Nat.add_assoc, total]
  have bound : n < 20 := by omega
  exact ⟨n, r, hr, sum, corrected.trans (packed_mod bound hr high_eq), by split at high_eq <;> omega⟩

/-- Settles O26: the sum and carries of the ADC are those of O19, and the two adjustments of the DAA those of O25. -/
theorem adcThenDaaAddsDecimally : Obligations.AdcThenDaaAddsDecimally := by
  intro s r x y hx hy hacc hreg
  obtain ⟨-, -, -, ⟨-, t, ht, adds⟩, -⟩ := additionsWriteTheSumAndFlags s r 0
  obtain ⟨-, u, hu, -, -, low, high, hlow, hhigh, value, -, hintel⟩ := daaAdjustsA t
  have sum := adds.acc
  have hac := adds.carries.ac
  have hcy := adds.carries.cy
  rw [hacc, hreg] at sum hac hcy
  have digit (z : Nat) : (z / 10 * 16 + z % 10) % 16 = z % 10 := by omega
  rw [digit, digit] at hac
  simp only [hac, hcy] at hlow hhigh
  obtain ⟨n, d, hd, split, decimal, carry⟩ := daa_of_packed_sum (by omega) (Nat.mod_lt x (by decide)) (by omega)
    (Nat.mod_lt y (by decide)) (Bool.toNat_le _) sum hlow hhigh
  rw [Nat.div_add_mod, Nat.div_add_mod] at split
  refine ⟨t, u, ht, hu, ?digits, fun intel => ?carry⟩
  case digits =>
    rw [value, decimal, split]
    omega
  case carry =>
    rw [(hintel (adds.keeps.outside.params ▸ intel)).2.1, hcy, carry, split]
    omega

/-- Two additions, the second with the carry of the first, are one addition of the joined words (R154). -/
theorem add8_add8 (h l d e : Byte) :
    (joinBytes (add8 h d (add8 l e false).cy).res (add8 l e false).res).toNat =
        ((joinBytes h l).toNat + (joinBytes d e).toNat) % 65536 ∧
      ((add8 h d (add8 l e false).cy).cy = true ↔ 65536 ≤ (joinBytes h l).toNat + (joinBytes d e).toNat) := by
  have hl := l.isLt
  have he := e.isLt
  have low := add8_cy_iff l e false
  simp only [joinBytes_toNat, add8_res_toNat, add8_cy_iff]
  cases hcy : (add8 l e false).cy <;> simp only [hcy, Bool.toNat_false, Bool.toNat_true] at low ⊢ <;>
    simp at low <;> omega

/-- Settles O27: the six meanings one after the other, and then `add8_add8`. -/
theorem addThenAdcIsA16BitAddition : Obligations.AddThenAdcIsA16BitAddition := fun s =>
  ⟨_, _, _, _, _, _, rfl, rfl, rfl, rfl, rfl, rfl, add8_add8 s.regs.h s.regs.l s.regs.d s.regs.e⟩

/-! ## The rotates -/

section Rotates

variable {s : State}

theorem exec_rlc (s : State) : exec .rlc s =
    .next (((s.setAcc (shiftInLow s.acc (s.acc.getLsbD 7))).setCy (s.acc.getLsbD 7)).advance 1) := rfl

theorem exec_rrc (s : State) : exec .rrc s =
    .next (((s.setAcc (shiftInHigh s.acc (s.acc.getLsbD 0))).setCy (s.acc.getLsbD 0)).advance 1) := rfl

theorem exec_ral (s : State) : exec .ral s =
    .next (((s.setAcc (shiftInLow s.acc s.flags.cy)).setCy (s.acc.getLsbD 7)).advance 1) := rfl

theorem exec_rar (s : State) : exec .rar s =
    .next (((s.setAcc (shiftInHigh s.acc s.flags.cy)).setCy (s.acc.getLsbD 0)).advance 1) := rfl

theorem getLsbD_seven (v : Byte) : v.getLsbD 7 = decide (128 ≤ v.toNat) :=
  Bool.eq_iff_iff.mpr ((getLsbD_seven_iff v).trans decide_eq_true_iff.symm)

theorem getLsbD_zero (v : Byte) : v.getLsbD 0 = decide (v.toNat % 2 = 1) :=
  Bool.eq_iff_iff.mpr ((getLsbD_zero_iff v).trans decide_eq_true_iff.symm)

theorem getLsbD_seven_toNat (v : Byte) : (v.getLsbD 7).toNat = v.toNat / 128 := by
  have := v.isLt
  by_cases h : 128 ≤ v.toNat <;>
    simp only [getLsbD_seven, h, decide_true, decide_false, Bool.toNat_true, Bool.toNat_false] <;> omega

theorem getLsbD_zero_toNat (v : Byte) : (v.getLsbD 0).toNat = v.toNat % 2 := by
  by_cases h : v.toNat % 2 = 1 <;>
    simp only [getLsbD_zero, h, decide_true, decide_false, Bool.toNat_true, Bool.toNat_false]
  omega

/-- Shifting a byte to the left and back, the bit that left coming in again. -/
theorem shiftInHigh_shiftInLow (v : Byte) (c : Bool) : shiftInHigh (shiftInLow v c) (v.getLsbD 7) = v := by
  apply BitVec.eq_of_toNat_eq
  have hv := v.isLt
  have hc := Bool.toNat_le c
  rw [shiftInHigh_toNat, shiftInLow_toNat, getLsbD_seven_toNat]
  omega

theorem shiftInLow_shiftInHigh (v : Byte) (c : Bool) : shiftInLow (shiftInHigh v c) (v.getLsbD 0) = v := by
  apply BitVec.eq_of_toNat_eq
  have hv := v.isLt
  have hc := Bool.toNat_le c
  rw [shiftInLow_toNat, shiftInHigh_toNat, getLsbD_zero_toNat]
  omega

/-- The bit shifted in is the one at the end. -/
theorem getLsbD_shiftInLow (v : Byte) (c : Bool) : (shiftInLow v c).getLsbD 0 = c := by
  have hc := Bool.toNat_le c
  rw [getLsbD_zero, shiftInLow_toNat]
  cases c <;> simp
  all_goals omega

theorem getLsbD_shiftInHigh (v : Byte) (c : Bool) : (shiftInHigh v c).getLsbD 7 = c := by
  have hv := v.isLt
  rw [getLsbD_seven, shiftInHigh_toNat]
  cases c <;> simp
  all_goals omega

theorem rotatesAcc_of_exec {i : Instr} {v : Byte} {c d : Bool} {m : Nat} (value : v.toNat = m) (carry : c = d)
    (h : exec i s = .next (((s.setAcc v).setCy c).advance 1)) : ∃ t, exec i s = .next t ∧ RotatesAcc s t m d :=
  ⟨_, h, value, carry ▸ rfl,
    ((keeps_setReg (List.mem_singleton_self Reg.a) v).trans (keeps_setCy c)).trans (keeps_advance 1),
    sequential_advance rfl rfl rfl⟩

/-- Writing A and CY back what they held, in two instructions of one byte each. -/
theorem State.restore_acc_cy (s : State) (v : Byte) (c : Bool) :
    (((((s.setAcc v).setCy c).advance 1).setAcc s.acc).setCy s.flags.cy).advance 1 = s.advance 2 :=
  calc (((((s.setAcc v).setCy c).advance 1).setAcc s.acc).setCy s.flags.cy).advance 1
    _ = ((s.setAcc s.acc).advance 1).advance 1 := by rw [← State.setAcc_setAcc s v s.acc]; rfl
    _ = s.advance 2 := by rw [State.setAcc_acc, State.advance_advance]

theorem exec_rar_after_ral (s : State) :
    exec .rar (((s.setAcc (shiftInLow s.acc s.flags.cy)).setCy (s.acc.getLsbD 7)).advance 1) =
      .next (s.advance 2) := by
  rw [exec_rar, State.acc_advance, State.acc_setCy, State.acc_setAcc, State.advance_flags, State.setCy_flags,
    shiftInHigh_shiftInLow, getLsbD_shiftInLow, State.restore_acc_cy]

theorem exec_ral_after_rar (s : State) :
    exec .ral (((s.setAcc (shiftInHigh s.acc s.flags.cy)).setCy (s.acc.getLsbD 0)).advance 1) =
      .next (s.advance 2) := by
  rw [exec_ral, State.acc_advance, State.acc_setCy, State.acc_setAcc, State.advance_flags, State.setCy_flags,
    shiftInLow_shiftInHigh, getLsbD_shiftInHigh, State.restore_acc_cy]

end Rotates

/-- Settles O30: the two shifts as arithmetic, each with the bit that enters. -/
theorem rotatesMoveEveryBitOnePlace : Obligations.RotatesMoveEveryBitOnePlace := by
  intro s
  refine ⟨⟨⟨rfl, rfl, fun _ => rfl, rfl⟩, rotatesAcc_of_exec ?rlc (getLsbD_seven s.acc) (exec_rlc s)⟩,
    ⟨⟨rfl, rfl, fun _ => rfl, rfl⟩, rotatesAcc_of_exec ?rrc (getLsbD_zero s.acc) (exec_rrc s)⟩,
    ⟨⟨rfl, rfl, fun _ => rfl, rfl⟩,
      rotatesAcc_of_exec (shiftInLow_toNat s.acc s.flags.cy) (getLsbD_seven s.acc) (exec_ral s)⟩,
    ⟨rfl, rfl, fun _ => rfl, rfl⟩,
    rotatesAcc_of_exec (shiftInHigh_toNat s.acc s.flags.cy) (getLsbD_zero s.acc) (exec_rar s)⟩
  case rlc => rw [shiftInLow_toNat, getLsbD_seven_toNat]
  case rrc => rw [shiftInHigh_toNat, getLsbD_zero_toNat]

/-- Settles O32: the second shift brings back the bit that left, and for RAL and RAR the carry too. -/
theorem rotatesUndoEachOther : Obligations.RotatesUndoEachOther := by
  intro s
  refine ⟨_, _, exec_ral s, exec_rar_after_ral s, exec_rar s, exec_ral_after_rar s,
    ⟨_, _, exec_rlc s, exec_rrc _, ?left⟩, ⟨_, _, exec_rrc s, exec_rlc _, ?right⟩⟩
  case left =>
    simp only [State.acc_advance, State.acc_setCy, State.acc_setAcc]
    rw [getLsbD_shiftInLow, shiftInHigh_shiftInLow]
  case right =>
    simp only [State.acc_advance, State.acc_setCy, State.acc_setAcc]
    rw [getLsbD_shiftInHigh, shiftInLow_shiftInHigh]

end Sys2Proof.Machine

namespace Sys2Proof.Machine

/-! ## Calls, returns and conditional branches -/

section Branches

variable {i : Instr} {s t u : State} {cond : Cond} {dir : Word} {b : Byte}

/-- A conditional jump of the card, by its condition. -/
theorem conditionalJump (enc : encode i = [b, lowByte dir, highByte dir]) (hexec : exec i s = jumpIf cond dir s)
    (states : statesOf i s.flags = if s.flags.holds cond then some 10 else some 7) :
    encode i = [b, lowByte dir, highByte dir] ∧
      exec i s = .next { s with pc := if s.flags.holds cond then dir else s.pc + 3 } ∧
      statesOf i s.flags = some (if s.flags.holds cond then 10 else 7) :=
  ⟨enc, hexec.trans (jumpIf_eq cond dir s), states.trans (apply_ite some _ _ _).symm⟩

/-- A call: the frame of CALL, RST, a taken Cccc and every interrupt entry. -/
theorem pushed_call (s : State) (ret target : Word) : Pushed s (s.call ret target) ret :=
  ⟨State.push16_high s ret, State.push16_low s ret, rfl⟩

theorem keeps_jump {rs : List Reg} {addrs : List Word} (w : Word) : Keeps rs addrs s (s.jump w) where
  regs _ _ := rfl
  mem _ _ := rfl
  outside := ⟨rfl, rfl, rfl, rfl, rfl, rfl, rfl⟩

theorem keeps_call (s : State) (ret target : Word) : Keeps [] [s.sp - 1, s.sp - 2] s (s.call ret target) :=
  (keeps_push16 (by simp) (by simp) ret).trans (keeps_jump target)

theorem calls_of_exec {ret : Word} (h : exec i s = .next (s.call ret dir)) :
    ∃ t, exec i s = .next t ∧ Pushed s t ret ∧ t.pc = dir ∧ Keeps [] [s.sp - 1, s.sp - 2] s t ∧
      t.flags = s.flags ∧ t.ctl = s.ctl :=
  ⟨_, h, pushed_call s ret dir, rfl, keeps_call s ret dir, rfl, rfl⟩

/-- A conditional call of the card, by its condition. -/
theorem conditionalCall (enc : encode i = [b, lowByte dir, highByte dir]) (hexec : exec i s = callIf cond dir s)
    (states : statesOf i s.flags = if s.flags.holds cond then some 18 else some 9) :
    encode i = [b, lowByte dir, highByte dir] ∧
      (s.flags.holds cond = false → exec i s = .next { s with pc := s.pc + 3 }) ∧
      (s.flags.holds cond = true → ∃ t, exec i s = .next t ∧ Pushed s t (s.pc + 3) ∧ t.pc = dir ∧
        Keeps [] [s.sp - 1, s.sp - 2] s t ∧ t.flags = s.flags ∧ t.ctl = s.ctl) ∧
      statesOf i s.flags = some (if s.flags.holds cond then 18 else 9) :=
  ⟨enc, fun untaken => hexec.trans (callIf_untaken untaken dir),
    fun taken => calls_of_exec (hexec.trans (callIf_taken taken dir)), states.trans (apply_ite some _ _ _).symm⟩

/-- The return from known bytes, H being the high byte of the address (R196). -/
theorem returnToPopped_of_top {lo hi : Byte} (top : topOfStack s lo hi) :
    returnToPopped s = .next { s with pc := hi ++ lo, sp := s.sp + 2 } :=
  pop16_of_some top.1 top.2 fun v t => .next (t.jump v)

/-- A conditional return of the card, by its condition. -/
theorem conditionalReturn {lo hi : Byte} (enc : encode i = [b]) (hexec : exec i s = returnIf cond s)
    (states : statesOf i s.flags = if s.flags.holds cond then some 12 else some 6) :
    encode i = [b] ∧
      (s.flags.holds cond = false → exec i s = .next { s with pc := s.pc + 1 }) ∧
      (s.flags.holds cond = true → topOfStack s lo hi →
        exec i s = .next { s with pc := hi ++ lo, sp := s.sp + 2 }) ∧
      statesOf i s.flags = some (if s.flags.holds cond then 12 else 6) :=
  ⟨enc, fun untaken => hexec.trans (returnIf_untaken untaken),
    fun taken top => (hexec.trans (returnIf_taken taken)).trans (returnToPopped_of_top top),
    states.trans (apply_ite some _ _ _).symm⟩

theorem exec_call (dir : Word) (s : State) : exec (.call dir) s = .next (s.call (s.pc + 3) dir) := rfl

theorem exec_rst (n : BitVec 3) (s : State) : exec (.rst n) s = .next (s.call (s.pc + 1) (rstTarget n)) := rfl

theorem encode_rst (n : BitVec 3) : encode (.rst n) = [BitVec.ofNat 8 (0xC7 + n.toNat * 8)] := by
  revert n
  decide +kernel

theorem sub_two_add_one (w : Word) : w - 2 + 1 = w - 1 := by bv_omega

theorem sub_two_add_two (w : Word) : w - 2 + 2 = w := by bv_omega

/-- What a push leaves is on top of the stack (R194). -/
theorem Pushed.top {w : Word} (h : Pushed s t w) : topOfStack t (lowByte w) (highByte w) := by
  rw [topOfStack, h.sp, sub_two_add_one]
  exact ⟨h.low, h.high⟩

end Branches

/-- Settles O34: eight instances of `jumpIf`. -/
theorem conditionalJumpsTestOneFlag : Obligations.ConditionalJumpsTestOneFlag := by
  intro s dir
  simp only [List.forall_mem_cons]
  exact ⟨conditionalJump (cond := .nz) rfl rfl rfl, conditionalJump (cond := .z) rfl rfl rfl,
    conditionalJump (cond := .nc) rfl rfl rfl, conditionalJump (cond := .c) rfl rfl rfl,
    conditionalJump (cond := .po) rfl rfl rfl, conditionalJump (cond := .pe) rfl rfl rfl,
    conditionalJump (cond := .p) rfl rfl rfl, conditionalJump (cond := .m) rfl rfl rfl, List.forall_mem_nil _⟩

/-- Settles O35: CALL is a call, and the conditional calls are eight instances of `callIf`. -/
theorem callsPushTheReturnAddress : Obligations.CallsPushTheReturnAddress := by
  intro s dir
  refine ⟨⟨⟨rfl, rfl, fun _ => rfl, rfl⟩, calls_of_exec (exec_call dir s)⟩, ?conditional⟩
  simp only [List.forall_mem_cons]
  exact ⟨conditionalCall (cond := .nz) rfl rfl rfl, conditionalCall (cond := .z) rfl rfl rfl,
    conditionalCall (cond := .nc) rfl rfl rfl, conditionalCall (cond := .c) rfl rfl rfl,
    conditionalCall (cond := .po) rfl rfl rfl, conditionalCall (cond := .pe) rfl rfl rfl,
    conditionalCall (cond := .p) rfl rfl rfl, conditionalCall (cond := .m) rfl rfl rfl, List.forall_mem_nil _⟩

/-- Settles O36: RET is a return, and the conditional returns are eight instances of `returnIf`. -/
theorem returnsPopPc : Obligations.ReturnsPopPc := by
  intro s lo hi
  refine ⟨⟨⟨rfl, rfl, fun _ => rfl, rfl⟩, fun top => returnToPopped_of_top top⟩, ?conditional⟩
  simp only [List.forall_mem_cons]
  exact ⟨conditionalReturn (cond := .nz) rfl rfl rfl, conditionalReturn (cond := .z) rfl rfl rfl,
    conditionalReturn (cond := .nc) rfl rfl rfl, conditionalReturn (cond := .c) rfl rfl rfl,
    conditionalReturn (cond := .po) rfl rfl rfl, conditionalReturn (cond := .pe) rfl rfl rfl,
    conditionalReturn (cond := .p) rfl rfl rfl, conditionalReturn (cond := .m) rfl rfl rfl, List.forall_mem_nil _⟩

/-- Settles O37: RST n is a call whose target is the arithmetic `rstTarget`. -/
theorem rstCallsItsVector : Obligations.RstCallsItsVector := by
  intro s n
  obtain ⟨t, ht, pushed, pc, keeps, flags, ctl⟩ := calls_of_exec (exec_rst n s)
  exact ⟨⟨rfl, encode_rst n, fun _ => rfl, rfl⟩, t, ht, pushed, pc ▸ rstTarget_toNat n, keeps, flags, ctl⟩

/-- Settles O38: the bytes the call pushed are on top of the stack of `u`. -/
theorem retReturnsToTheCaller : Obligations.RetReturnsToTheCaller := by
  intro s t u dir hcall sp high low
  obtain rfl := Host.Outcome.next.inj ((exec_call dir s).symm.trans hcall)
  have pushed := pushed_call s (s.pc + 3) dir
  have top : topOfStack u (lowByte (s.pc + 3)) (highByte (s.pc + 3)) := by
    rw [topOfStack, sp, pushed.sp, sub_two_add_one]
    exact ⟨low.trans pushed.low, high.trans pushed.high⟩
  refine (returnToPopped_of_top top).trans ?_
  rw [sp, pushed.sp, sub_two_add_two, show highByte (s.pc + 3) ++ lowByte (s.pc + 3) = s.pc + 3 from
    joinBytes_high_low _]

/-! ## PUSH and POP together, PSW -/

section Psw

variable {s : State}

theorem exec_pushPsw (s : State) : exec .pushPsw s =
    .next (((s.push16 (joinBytes s.acc (s.flags.toByte (Config.spareDraw s.draws)))).drew).advance 1) := rfl

theorem exec_popPsw_of_top {lo hi : Byte} (top : topOfStack s lo hi) :
    exec .popPsw s = .next ((((s.setSp (s.sp + 2)).setFlags (Flags.ofByte lo)).setAcc hi).advance 1) := by
  refine (pop16_of_some top.1 top.2 fun v t =>
    .next (((t.setFlags (Flags.ofByte (lowByte v))).setAcc (highByte v)).advance 1)).trans ?_
  rw [lowByte_joinBytes, highByte_joinBytes]

theorem keeps_drew {rs : List Reg} {addrs : List Word} : Keeps rs addrs { s with draws := s.draws + 1 } s.drew where
  regs _ _ := rfl
  mem _ _ := rfl
  outside := ⟨rfl, rfl, rfl, rfl, rfl, rfl, rfl⟩

theorem pushed_pushPsw (s : State) : Pushed s
    (((s.push16 (joinBytes s.acc (s.flags.toByte (Config.spareDraw s.draws)))).drew).advance 1)
    (joinBytes s.acc (s.flags.toByte (Config.spareDraw s.draws))) :=
  have pushed := pushed_push16 s (joinBytes s.acc (s.flags.toByte (Config.spareDraw s.draws)))
  ⟨pushed.high, pushed.low, pushed.sp⟩

end Psw

/-- Settles O40: one push of A and the flag byte, and one pop of them. -/
theorem pswMovesAAndFlags : Obligations.PswMovesAAndFlags := by
  intro s v w
  refine ⟨⟨⟨rfl, rfl, fun _ => rfl, rfl⟩, ?push⟩, ⟨rfl, rfl, fun _ => rfl, rfl⟩, fun top => ?pop⟩
  case push =>
    have pushed := pushed_pushPsw s
    obtain ⟨hs, hz, -, hac, -, hp, -, hcy⟩ := packBits_getLsbD s.flags.s s.flags.z
      ((Config.spareDraw s.draws).getLsbD 2) s.flags.ac ((Config.spareDraw s.draws).getLsbD 1) s.flags.p
      ((Config.spareDraw s.draws).getLsbD 0) s.flags.cy
    exact ⟨_, s.flags.toByte (Config.spareDraw s.draws), exec_pushPsw s,
      pushed.high.trans (congrArg some (highByte_joinBytes _ _)),
      pushed.low.trans (congrArg some (lowByte_joinBytes _ _)), hs, hz, hac, hp, hcy, rfl, rfl,
      (keeps_drew.trans (keeps_push16 (s := s.drew) (by simp) (by simp) _)).trans (keeps_advance 1), rfl, rfl⟩
  case pop =>
    exact ⟨_, exec_popPsw_of_top top, rfl, rfl, rfl, rfl, rfl, rfl, rfl, rfl,
      ((keeps_setSp _).trans (keeps_setFlags _)).trans ((keeps_setReg (List.mem_singleton_self Reg.a) w).trans
        (keeps_advance 1)), rfl⟩

/-- Settles O43: what was pushed is on top of the stack when the pop reads it. -/
theorem pushThenPopRestores : Obligations.PushThenPopRestores := by
  intro s
  refine ⟨fun p q _ hq => ?pair, ?psw⟩
  case pair =>
    have top := ((pushed_push16 s (s.pair p)).advance 1).top
    refine ⟨_, _, exec_pushRp p s, exec_popRp_of_top top q, ?value, ?sp,
      ((keeps_push16 (by simp) (by simp) _).trans (keeps_advance 1)).trans
        (((keeps_setSp _).trans (keeps_setPair (List.Subset.refl _) _)).trans (keeps_advance 1))⟩
    case value => rw [State.pair_advance, State.pair_setPair_same, joinBytes_high_low]
    case sp => rw [State.advance_sp, State.setPair_sp_of_ne _ _ hq, State.setSp_sp, State.advance_sp, State.push16_sp,
      sub_two_add_two]
  case psw =>
    have top := (pushed_pushPsw s).top
    rw [lowByte_joinBytes, highByte_joinBytes] at top
    exact ⟨_, _, exec_pushPsw s, exec_popPsw_of_top top, rfl, Flags.ofByte_toByte _ _, sub_two_add_two s.sp⟩

/-! ## Input, output and processor control -/

section Control

variable {s : State}

theorem exec_inPort (port : Byte) (s : State) :
    exec (.inPort port) s = .next (((s.ioRead port).2.setAcc (s.ioRead port).1).advance 2) := rfl

theorem exec_outPort (port : Byte) (s : State) :
    exec (.outPort port) s = .next ((s.ioWrite port s.acc).advance 2) := rfl

theorem exec_ei (s : State) : exec .ei s = .next ((s.setCtl (s.ctl.enable s.params.eiDelay)).advance 1) := rfl

theorem exec_di (s : State) : exec .di s = .next ((s.setCtl s.ctl.disable).advance 1) := rfl

theorem exec_hlt (s : State) : exec .hlt s = .next ((s.setCtl { s.ctl with halted := true }).advance 1) := rfl

theorem exec_sim (s : State) : exec .sim s =
    .next (((s.setCtl ((s.ctl.simMasks s.acc).simReset75 s.acc)).simSerial s.acc).advance 1) := rfl

theorem exec_rim_of_i8085 (h : s.params.interruptModel = .i8085) :
    exec .rim s = .next (((s.setAcc s.rimByte).setCtl s.ctl.rimClear).advance 1) := by
  show execRim s = _
  rw [execRim, h]

theorem exec_rim_of_none (h : s.params.interruptModel = .none) :
    exec .rim s = .next (((s.setAcc (Config.rimDraw s.draws)).drew).advance 1) := by
  show execRim s = _
  rw [execRim, h]

theorem eiStartsDelay_eq (d : EiDelay) : eiStartsDelay d = decide (d = .one) := by cases d <;> rfl

theorem keeps_setAcc (v : Byte) (n : Nat) : Keeps [.a] [] s ((s.setAcc v).advance n) :=
  (keeps_setReg (List.mem_singleton_self Reg.a) v).trans (keeps_advance n)

/-- The serial output of SIM beside the control state: an output event when bit 6 of A is set (R231). -/
theorem simSerial_eq (s : State) (v : Byte) : s.simSerial v = { s with
    ctl := { s.ctl with sod := if v.getLsbD 6 then v.getLsbD 7 else s.ctl.sod }
    events := if v.getLsbD 6 then .sod (v.getLsbD 7) :: s.events else s.events } := by
  unfold State.simSerial
  cases v.getLsbD 6 <;> rfl

end Control

/-- Settles O44: a scripted byte and a free one are the two cases of a port read. -/
theorem inLoadsWhatTheEnvironmentPresents : Obligations.InLoadsWhatTheEnvironmentPresents := by
  intro s port
  refine ⟨⟨rfl, rfl, fun _ => rfl, rfl⟩, fun v rest h => ⟨_, exec_inPort port s, ?_⟩,
    fun h => ⟨_, exec_inPort port s, ?_⟩⟩
  · rw [State.ioRead_scripted h]
    exact ⟨rfl, keeps_setAcc v 2, rfl, sequential_advance rfl rfl rfl⟩
  · rw [State.ioRead_free h]
    exact ⟨rfl, keeps_setAcc _ 2, rfl, sequential_advance rfl rfl rfl⟩

/-- Settles O45: the meaning is one output event. -/
theorem outPresentsA : Obligations.OutPresentsA := fun s port =>
  ⟨⟨rfl, rfl, fun _ => rfl, rfl⟩, _, exec_outPort port s, keeps_advance 2, rfl, sequential_advance rfl rfl rfl⟩

/-- Settles O46: both meanings are one write of the control state. -/
theorem eiAndDiWriteTheEnable : Obligations.EiAndDiWriteTheEnable := by
  intro s
  refine ⟨⟨⟨rfl, rfl, fun _ => rfl, rfl⟩, ?ei⟩, ⟨rfl, rfl, fun _ => rfl, rfl⟩, exec_di s⟩
  case ei =>
    rw [← eiStartsDelay_eq]
    exact exec_ei s

/-- Settles O49: the bits of the status byte as `packBits` lays them out, and the fields `rimClear` writes. -/
theorem rimReadsTheInterruptStatus : Obligations.RimReadsTheInterruptStatus := by
  intro s
  refine ⟨⟨rfl, rfl, fun _ => rfl, rfl⟩, fun hm => ?i8085, fun hm => ?none⟩
  case i8085 =>
    obtain ⟨b7, b6, b5, b4, b3, b2, b1, b0⟩ := packBits_getLsbD s.lines.sid s.ctl.i75 s.lines.rst65 s.lines.rst55
      (if s.ctl.trapSeen then s.ctl.trapIe else s.ctl.ie) s.ctl.m75 s.ctl.m65 s.ctl.m55
    exact ⟨_, exec_rim_of_i8085 hm, b7, b6, b5, b4, b3, b2, b1, b0, rimClear_eq s.ctl,
      ⟨(keeps_setAcc s.rimByte 1).regs, fun _ _ => rfl, ⟨rfl, rfl, rfl, rfl, rfl, rfl, rfl⟩⟩, rfl, rfl, rfl⟩
  case none =>
    exact ⟨_, exec_rim_of_none hm, rfl, keeps_setAcc (s := { s with draws := s.draws + 1 }) _ 1, rfl,
      sequential_advance rfl rfl rfl⟩

/-- Settles O50: `afterSim` is the control state, `simSerial_eq` the output event. -/
theorem simProgramsMasksAndSerialOutput : Obligations.SimProgramsMasksAndSerialOutput := by
  intro s
  refine ⟨⟨rfl, rfl, fun _ => rfl, rfl⟩, _, exec_sim s, sim_ctl s, ?_⟩
  rw [simSerial_eq]
  exact ⟨⟨fun _ _ => rfl, fun _ _ => rfl, ⟨rfl, rfl, rfl, rfl, rfl, rfl, rfl⟩⟩, rfl, rfl, rfl⟩

/-- Settles O51: ten bytes, each evaluated. -/
theorem unassignedOpcodesAreRefused : Obligations.UnassignedOpcodesAreRefused := by
  intro s
  simp only [List.forall_mem_cons]
  exact ⟨⟨rfl, rfl, rfl⟩, ⟨rfl, rfl, rfl⟩, ⟨rfl, rfl, rfl⟩, ⟨rfl, rfl, rfl⟩, ⟨rfl, rfl, rfl⟩, ⟨rfl, rfl, rfl⟩,
    ⟨rfl, rfl, rfl⟩, ⟨rfl, rfl, rfl⟩, ⟨rfl, rfl, rfl⟩, ⟨rfl, rfl, rfl⟩, List.forall_mem_nil _⟩

end Sys2Proof.Machine

namespace Sys2Proof.Machine

/-! ## Fetching: the step that executes the bytes at PC -/

section Fetch

variable {i : Instr} {s t u : State} {b lo hi : Byte} {bytes : List Byte}

theorem step_of_reset (reset : s.resetAsserted = true) : step s = .next s.sample.takeReset := by
  rw [step, stepOnce, if_pos reset]

theorem step_of_accepted {src : IntSource} (reset : s.resetAsserted = false) (accepted : s.sample.accepted = some src) :
    step s = takeInterrupt s.sample src := by
  simp [step, stepOnce, cycle, reset, accepted]

theorem step_of_waiting (reset : s.resetAsserted = false) (accepted : s.sample.accepted = none)
    (halted : s.sample.ctl.halted = true) : step s = haltedStep s.sample := by
  simp only [step, stepOnce, cycle, reset, accepted, halted, Bool.false_eq_true, if_false, if_true]

theorem step_of_running (reset : s.resetAsserted = false) (accepted : s.sample.accepted = none)
    (running : s.sample.ctl.halted = false) : step s = runInstr s.sample := by
  simp only [step, stepOnce, cycle, reset, accepted, running, Bool.false_eq_true, if_false]

theorem add_one_add_one (w : Word) : w + 1 + 1 = w + 2 := by bv_omega

/-- Which bytes stand where depends on memory alone. -/
theorem bytesAt_of_mem_eq (mem : t.mem = s.mem) {a : Word} (h : bytesAt s a bytes) : bytesAt t a bytes := by
  induction bytes generalizing a with
  | nil => trivial
  | cons v rest ih => exact ⟨mem ▸ h.1, ih h.2⟩

/-- The fetch hands on the bytes of an instruction that stands at PC. -/
theorem fetchBytes_of_bytesAt (instr : InstrBytes i b lo hi)
    (stands : bytesAt s s.pc (b :: [lo, hi].take (operandCount b))) (k : Byte → Byte → Byte → Result) :
    fetchBytes s k = k b lo hi := by
  obtain ⟨first, operands⟩ := stands
  rw [fetchBytes, loadByte_of_some first]
  have two := operandCount_le_two b
  rcases hn : operandCount b with _ | _ | _ | n
  · rw [instr.loUnused hn, instr.hiUnused (by omega)]
    rfl
  · rw [hn] at operands
    rw [instr.hiUnused (by omega)]
    exact loadByte_of_some operands.1 _
  · rw [hn] at operands
    obtain ⟨hlo, hhi, -⟩ := operands
    rw [add_one_add_one] at hhi
    exact (loadByte_of_some hlo _).trans (loadByte_of_some hhi _)
  · omega

/-- A fetch stops on the first byte of the instruction that is not there. -/
theorem fetchBytes_of_unwritten {before after : List Byte} {v : Byte}
    (instr : b :: [lo, hi].take (operandCount b) = before ++ v :: after) (stands : bytesAt s s.pc before)
    (unwritten : s.mem.read (s.pc + BitVec.ofNat 16 before.length) = none) (k : Byte → Byte → Byte → Result) :
    fetchBytes s k = .fault (.unwrittenRead (s.pc + BitVec.ofNat 16 before.length)) := by
  cases before with
  | nil =>
    rw [List.length_nil, BitVec.add_zero] at unwritten ⊢
    exact loadByte_of_none unwritten _
  | cons c before =>
    have length := congrArg List.length instr
    simp only [List.length_cons, List.length_append, List.length_take, List.length_nil] at length
    obtain ⟨rfl, -⟩ := List.cons.inj instr
    obtain ⟨first, stands⟩ := stands
    rw [fetchBytes, loadByte_of_some first]
    rcases hn : operandCount b with _ | _ | n
    · omega
    · obtain rfl : before = [] := List.eq_nil_of_length_eq_zero (by omega)
      exact loadByte_of_none unwritten _
    · cases before with
      | nil => exact loadByte_of_none unwritten _
      | cons d before =>
        obtain rfl : before = [] := List.eq_nil_of_length_eq_zero (by simp only [List.length_cons] at length; omega)
        exact (loadByte_of_some stands.1 _).trans (loadByte_of_none unwritten _)

theorem runBytes_of_decodeBytes (h : decodeBytes b lo hi = some i) (prepare : Instr → State) :
    runBytes b lo hi prepare = complete i (prepare i) := by
  rw [runBytes, h]

theorem runInstr_of_decode (decoded : decode bytes = .ok (i, [])) (stands : bytesAt s s.pc bytes) :
    runInstr s = complete i s := by
  obtain ⟨b, lo, hi, instr, rfl⟩ := decode_eq_ok_iff.mp decoded
  rw [List.append_nil] at stands
  rw [runInstr, fetchBytes_of_bytesAt instr stands, runBytes_of_decodeBytes instr.decodes]

/-- The step of a processor that runs and accepts nothing executes the instruction at PC. -/
theorem step_of_decode (reset : s.resetAsserted = false) (accepted : s.sample.accepted = none)
    (running : s.sample.ctl.halted = false) (decoded : decode bytes = .ok (i, [])) (stands : bytesAt s s.pc bytes) :
    step s = complete i s.sample := by
  rw [step_of_running reset accepted running]
  exact runInstr_of_decode decoded (State.sample_pc s ▸ bytesAt_of_mem_eq (State.sample_mem s) stands)

theorem endInstr_eq (t : State) (i : Instr) : t.endInstr i = { t with
    ctl := { t.ctl with eiPending := t.ctl.eiPending && decide (i = .ei) }
    firstFetch := false } := by
  rw [State.endInstr, Ctl.endInstr, isEi_eq_decide]

theorem State.sample_eq (s : State) :
    s.sample = { s with lines := s.sample.lines, script := s.script.tail, ctl := s.sample.ctl } := by
  cases h : s.script with
  | nil =>
    simp only [State.sample, h, List.tail_nil]
    rw [← h]
  | cons e rest => simp only [State.sample, h, List.tail_cons]

end Fetch

/-- Settles O5: the step completes the decoded instruction on the sampled state, for each of its three outcomes. -/
theorem stepRunsTheDecodedInstruction : Obligations.StepRunsTheDecodedInstruction := by
  intro s bytes i reset accepted running decoded stands
  rw [step_of_decode reset accepted running decoded stands]
  refine ⟨(decodedBytesAreTheEncoding bytes [] i decoded).1, State.sample_eq s, fun t ht => ?next,
    fun f hf => complete_of_fault hf, fun r hr => complete_of_refused hr⟩
  case next => rw [complete_of_next ht, endInstr_eq]

/-- Settles O60: the bytes of the encoding are fetched in order, so the first that is missing stops the fetch. -/
theorem fetchStopsOnAnUnwrittenByte : Obligations.FetchStopsOnAnUnwrittenByte := by
  intro s i before after v reset accepted running wf enc stands unwritten
  obtain ⟨b, lo, hi, -, hbytes⟩ := exists_instrBytes wf
  rw [step_of_running reset accepted running, ← State.sample_pc s]
  refine fetchBytes_of_unwritten (hbytes.symm.trans enc) ?_ ?_ _
  · exact State.sample_pc s ▸ bytesAt_of_mem_eq (State.sample_mem s) stands
  · rwa [State.sample_pc, State.sample_mem]

/-- Settles O48: a halted processor waits or stops by INTERRUPT_MODEL. -/
theorem hltHaltsTheProcessor : Obligations.HltHaltsTheProcessor := by
  intro s
  refine ⟨⟨rfl, rfl, fun _ => rfl, rfl⟩, exec_hlt s, fun halted reset accepted => ?_⟩
  rw [step_of_waiting reset accepted ((sample_halted s).trans halted), haltedStep, State.sample_params]
  exact ⟨fun none => by rw [none], fun i8085 => by rw [i8085]⟩

/-! ## Resets and interrupts -/

/-- Settles O59: the step after a reset is one of O5, for nothing is accepted before the first fetch. -/
theorem resetEventRestartsTheProcessor : Obligations.ResetEventRestartsTheProcessor := by
  intro s e rest script resets
  have reset : s.resetAsserted = true := by simp only [State.resetAsserted, script, resets]
  have sampled := (samplingLatchesRisingEdges s).2 e rest script
  refine ⟨s.sample.takeReset, step_of_reset reset, rfl, State.sample_mem s, State.sample_events s,
    State.sample_params s, by rw [State.takeReset_script, sampled], by rw [State.takeReset_lines, sampled],
    State.sample_portIn s, rfl, takeReset_sample_accepted s.sample, fun bytes i u again decoded stands hu => ?fetch⟩
  case fetch =>
    exact (stepRunsTheDecodedInstruction s.sample.takeReset bytes i again (takeReset_sample_accepted s.sample)
      (sample_halted s.sample.takeReset) decoded stands).2.2.1 u hu

/-- Settles O54: the meaning of the entry is a call with the acknowledged control state. -/
theorem vectoredEntryPushesAndDisables : Obligations.VectoredEntryPushesAndDisables := by
  intro s u src target reset sampled accepted hsrc
  have vector : src.vector = some target := by
    simp only [List.mem_cons, Prod.mk.injEq, List.not_mem_nil, or_false] at hsrc
    obtain ⟨rfl, rfl⟩ | ⟨rfl, rfl⟩ | ⟨rfl, rfl⟩ | ⟨rfl, rfl⟩ := hsrc <;> rfl
  subst sampled
  have keeps := keeps_call (s.sample.setCtl (s.sample.ctl.acknowledge src)) s.sample.pc target
  have pushed := pushed_call (s.sample.setCtl (s.sample.ctl.acknowledge src)) s.sample.pc target
  refine ⟨_, (step_of_accepted reset accepted).trans (takeInterrupt_vectored vector),
    ⟨pushed.high, pushed.low, pushed.sp⟩, rfl, ⟨keeps.regs, keeps.mem, ⟨rfl, rfl, rfl, rfl, rfl, rfl, rfl⟩⟩, rfl,
    acknowledge_eq s.sample.ctl src⟩

/-- Settles O56: EI leaves IE and EI_PENDING at 1, and no maskable request is accepted while EI_PENDING is. -/
theorem eiHoldsMaskableInterruptsForOneInstruction : Obligations.EiHoldsMaskableInterruptsForOneInstruction := by
  intro s t reset accepted running delay fetched hstep
  have stepped := step_of_decode reset accepted running (bytes := [0xFB#8]) (i := .ei) rfl ⟨fetched, trivial⟩
  rw [complete_of_next (exec_ei s.sample), State.sample_params, delay] at stepped
  obtain rfl := Host.Outcome.next.inj (hstep.symm.trans stepped)
  refine ⟨rfl, ?_⟩
  cases next : (State.sample _).accepted with
  | none => exact .inl rfl
  | some src =>
    refine .inr (congrArg some (Classical.byContradiction fun maskable => ?_))
    have pending := (enabled_of_accepted next maskable).2
    rw [sample_eiPending] at pending
    cases pending

/-- Settles O57: the TRAP entry saves IE and clears it, so the first RIM reads the saved value and the second 0. -/
theorem firstRimAfterTrapReadsTheOldEnable : Obligations.FirstRimAfterTrapReadsTheOldEnable := by
  intro s t u v reset accepted hstep first second
  rw [step_of_accepted reset accepted, takeInterrupt_vectored rfl] at hstep
  obtain rfl := Host.Outcome.next.inj hstep
  have model : (s.sample.takeVectored .trap 0x0024#16).params.interruptModel = .i8085 :=
    (acceptable_of_accepted accepted).1
  obtain ⟨u', hu, -, -, -, -, bit, -, -, -, ctl, keeps, -⟩ := (rimReadsTheInterruptStatus _).2.1 model
  obtain rfl := Host.Outcome.next.inj (hu.symm.trans first)
  obtain ⟨v', hv, -, -, -, -, bit', -⟩ :=
    (rimReadsTheInterruptStatus u').2.1 ((congrArg Params.interruptModel keeps.outside.params).trans model)
  obtain rfl := Host.Outcome.next.inj (hv.symm.trans second)
  refine ⟨bit.trans (sample_ie s), ?_⟩
  rw [bit', ctl]
  rfl

end Sys2Proof.Machine

namespace Sys2Proof.Machine

/-! ## The instruction an INTR device supplies -/

section Intr

variable {i : Instr} {s t u : State} {b lo hi : Byte}

theorem encode_length (i : Instr) : (encode i).length = i.length := by cases i <;> rfl

/-- Of three bytes the decoder takes as many as the table needs. -/
theorem decodeBytes_of_decode {rest : List Byte} (h : decode [b, lo, hi] = .ok (i, rest)) :
    decodeBytes b lo hi = some i := by
  obtain ⟨b', lo', hi', instr, hbytes⟩ := decode_eq_ok_iff.mp h
  obtain ⟨rfl, operands⟩ := List.cons.inj hbytes
  refine instr.decodeBytes_eq ?_
  rw [operands, List.take_left']
  simpa using operandCount_le_two b

/-- A byte without a length is one of the ten that are refused by name (R75). -/
theorem decodeBytes_of_no_length (h : opcodeLength b = none) (lo hi : Byte) :
    ∃ i, decodeBytes b lo hi = some i ∧ ∀ s, exec i s = .refused (.unassignedOpcode b) := by
  have ten : ∀ b : Byte, opcodeLength b = none →
      b = 0x08#8 ∨ b = 0x10#8 ∨ b = 0x18#8 ∨ b = 0x28#8 ∨ b = 0x38#8 ∨ b = 0xCB#8 ∨ b = 0xD9#8 ∨ b = 0xDD#8 ∨
        b = 0xED#8 ∨ b = 0xFD#8 := by decide +kernel
  obtain rfl | rfl | rfl | rfl | rfl | rfl | rfl | rfl | rfl | rfl := ten b h <;> exact ⟨_, rfl, fun _ => rfl⟩

theorem decodeBytes_rst (n : BitVec 3) (lo hi : Byte) :
    decodeBytes (BitVec.ofNat 8 (0xC7 + n.toNat * 8)) lo hi = some (.rst n) := by
  have all : ∀ n : BitVec 3, decodeBytes (BitVec.ofNat 8 (0xC7 + n.toNat * 8)) 0 0 = some (.rst n) ∧
      operandCount (BitVec.ofNat 8 (0xC7 + n.toNat * 8)) = 0 := by decide +kernel
  obtain ⟨decodes, count⟩ := all n
  refine (InstrBytes.one decodes).decodeBytes_eq ?_
  rw [count]
  rfl

/-- The state in which a supplied instruction of `n` bytes executes: the control state acknowledged, and PC set back so
that the end of the instruction is the address of the next one (R247); `step_of_intr` ties it to the model. -/
def State.acknowledged (u : State) (n : Nat) : State :=
  (u.setCtl (u.ctl.acknowledge .intr)).jump (u.pc - BitVec.ofNat 16 n)

theorem State.acknowledged_eq (u : State) (i : Instr) : u.acknowledged i.length = { u with
    pc := u.pc - BitVec.ofNat 16 (encode i).length
    ctl := { u.ctl with ie := false, eiPending := false, halted := false } } := by
  rw [encode_length]
  rfl

theorem step_of_intr (reset : s.resetAsserted = false) (sampled : s.sample = u) (accepted : u.accepted = some .intr)
    (decodes : decodeBytes u.lines.ack0 u.lines.ack1 u.lines.ack2 = some i) :
    step s = complete i (u.acknowledged i.length) := by
  subst sampled
  rw [step_of_accepted reset accepted]
  exact runBytes_of_decodeBytes decodes _

theorem endInstr_of_quiet (pending : t.ctl.eiPending = false) (first : t.firstFetch = false) : t.endInstr i = t := by
  rw [State.endInstr, ← first, Ctl.endInstr, pending, Bool.false_and, ← pending]

/-- No instruction but EI leaves EI_PENDING 1 when it was acknowledged. -/
theorem complete_acknowledged {n : Nat} (notEi : i ≠ .ei) (first : u.firstFetch = false)
    (h : exec i (u.acknowledged n) = .next t) : complete i (u.acknowledged n) = .next t := by
  rw [complete_of_next h, endInstr_of_quiet ?pending ((within_of_exec h).firstFetch.trans first)]
  case pending =>
    rw [ctl_of_exec h, ← Bool.not_eq_true]
    intro pending
    obtain hp | rfl := eiPending_of_ctlAfter pending
    · cases hp
    · exact notEi rfl

/-- A supplied EI, after which nothing but IE, EI_PENDING and HALTED can differ. -/
theorem complete_ei_acknowledged (first : u.firstFetch = false) :
    complete .ei (u.acknowledged Instr.ei.length) = .next { u with
      ctl := { u.ctl with ie := true, eiPending := decide (u.params.eiDelay = .one), halted := false } } := by
  rw [complete_of_next (exec_ei _), endInstr_eq]
  show Host.Outcome.next { u with
    pc := u.pc - 1#16 + 1#16
    ctl := { u.ctl with ie := true, eiPending := eiStartsDelay u.params.eiDelay && true, halted := false }
    firstFetch := false } = _
  rw [BitVec.sub_add_cancel, Bool.and_true, eiStartsDelay_eq, ← first]

end Intr

/-- Settles O55: whatever the device supplies is completed on the acknowledged state. -/
theorem intrExecutesTheSuppliedInstruction : Obligations.IntrExecutesTheSuppliedInstruction := by
  intro s u reset sampled accepted
  have first := firstFetch_of_accepted accepted
  refine ⟨fun i rest v decoded hv => ?supplied, fun ei => ?ei, fun unassigned => ?unassigned, fun n rst => ?rst⟩
  case supplied =>
    rw [step_of_intr reset sampled accepted (decodeBytes_of_decode decoded), hv, ← State.acknowledged_eq]
    exact ⟨fun t notEi => complete_acknowledged notEi first, fun f => complete_of_fault⟩
  case ei =>
    have decodes : decodeBytes u.lines.ack0 u.lines.ack1 u.lines.ack2 = some .ei := by
      rw [ei]
      rfl
    rw [step_of_intr reset sampled accepted decodes, complete_ei_acknowledged first]
  case unassigned =>
    obtain ⟨i, decodes, refused⟩ := decodeBytes_of_no_length unassigned u.lines.ack1 u.lines.ack2
    rw [step_of_intr reset sampled accepted decodes, complete_of_refused (refused _)]
  case rst =>
    have decodes : decodeBytes u.lines.ack0 u.lines.ack1 u.lines.ack2 = some (.rst n) := rst ▸ decodeBytes_rst n _ _
    obtain ⟨-, t, ht, pushed, pc, keeps, flags, ctl⟩ := rstCallsItsVector (u.acknowledged 1) n
    have back : (u.acknowledged 1).pc + 1 = u.pc := BitVec.sub_add_cancel u.pc 1
    rw [back] at pushed
    refine ⟨t, ?_, ⟨pushed.high, pushed.low, pushed.sp⟩, pc, ⟨keeps.regs, keeps.mem, ?_⟩, flags, ctl⟩
    · rw [step_of_intr reset sampled accepted decodes]
      exact complete_acknowledged (by simp) first ht
    · obtain ⟨lines, script, portIn, firstFetch, draws, events, params⟩ := keeps.outside
      exact ⟨lines, script, portIn, firstFetch, draws, events, params⟩

end Sys2Proof.Machine

namespace Sys2Proof.Machine

/-! ## Which flags an instruction reads and writes -/

section FlagFrame

variable {s : State} {g : Flags} {W : List FlagName}

/-- A state with the flags not listed replaced by those of `g`: how the next state of an instruction that writes the
flags `W` depends on flags it does not read. -/
def State.overFlags (W : List FlagName) (g : Flags) (t : State) : State := { t with flags := Flags.merge W t.flags g }

/-- A memory read commutes with replacing the flags when what follows it does. -/
theorem overFlags_loadByte {a : Word} {k k' : Byte → Result} (h : ∀ v, k' v = mapNext (State.overFlags W g) (k v)) :
    loadByte { s with flags := g } a k' = mapNext (State.overFlags W g) (loadByte s a k) := by
  cases ha : s.mem.read a with
  | none => rw [loadByte_of_none ha, loadByte_of_none (s := { s with flags := g }) ha, mapNext]
  | some v => rw [loadByte_of_some ha, loadByte_of_some (s := { s with flags := g }) ha, h]

/-- The flag a condition tests (R65); `holds_of_value` ties it to the model. -/
def testedFlag : Cond → FlagName
  | .nz | .z => .z
  | .nc | .c => .cy
  | .po | .pe => .p
  | .p | .m => .s

theorem holds_of_value {f g : Flags} {cond : Cond} (h : ∀ n ∈ [testedFlag cond], g.value n = f.value n) :
    g.holds cond = f.holds cond := by
  have tested := h (testedFlag cond) (List.mem_singleton_self _)
  cases cond with
  | nz | nc | po | p => exact congrArg not tested
  | z | c | pe | m => exact tested

theorem overFlags_jumpIf {cond : Cond} (hread : ∀ n ∈ [testedFlag cond], g.value n = s.flags.value n) (dir : Word) :
    jumpIf cond dir { s with flags := g } = mapNext (State.overFlags [] g) (jumpIf cond dir s) := by
  rw [jumpIf_eq, jumpIf_eq, holds_of_value hread]
  rfl

theorem overFlags_callIf {cond : Cond} (hread : ∀ n ∈ [testedFlag cond], g.value n = s.flags.value n) (dir : Word) :
    callIf cond dir { s with flags := g } = mapNext (State.overFlags [] g) (callIf cond dir s) := by
  rw [callIf, callIf, holds_of_value hread]
  split <;> rfl

theorem overFlags_returnToPopped :
    returnToPopped { s with flags := g } = mapNext (State.overFlags [] g) (returnToPopped s) :=
  overFlags_loadByte fun _ => overFlags_loadByte fun _ => rfl

theorem overFlags_returnIf {cond : Cond} (hread : ∀ n ∈ [testedFlag cond], g.value n = s.flags.value n) :
    returnIf cond { s with flags := g } = mapNext (State.overFlags [] g) (returnIf cond s) := by
  rw [returnIf, returnIf, holds_of_value hread]
  split
  · exact overFlags_returnToPopped
  · rfl

theorem Flags.ext_value {f g : Flags} (h : ∀ n, f.value n = g.value n) : f = g := by
  obtain ⟨fs, fz, fac, fp, fcy⟩ := f
  obtain ⟨gs, gz, gac, gp, gcy⟩ := g
  rw [show fs = gs from h .s, show fz = gz from h .z, show fac = gac from h .ac, show fp = gp from h .p,
    show fcy = gcy from h .cy]

/-- DAA under each value of DAA_FLAGS (R150). -/
theorem Flags.ofDaa_eq_merge (f g : Flags) (d : DaaFlags) (o : AluOut) :
    g.ofDaa d o = Flags.merge (flagsWritten .daa d) (f.ofDaa d o) g := by
  cases d <;> rfl

theorem overFlags_daa (hac : g.ac = s.flags.ac) (hcy : g.cy = s.flags.cy) : exec .daa { s with flags := g } =
    mapNext (State.overFlags (flagsWritten .daa s.params.daaFlags) g) (exec .daa s) := by
  rw [exec_daa, exec_daa, hac, hcy]
  exact congrArg (fun f => Host.Outcome.next (((s.setAcc _).setFlags f).advance 1)) (Flags.ofDaa_eq_merge s.flags g _ _)

theorem overFlags_ioRead (port : Byte) :
    State.ioRead { s with flags := g } port = ((s.ioRead port).1, { (s.ioRead port).2 with flags := g }) := by
  by_cases hp : s.portIn = []
  · rw [State.ioRead_free (s := { s with flags := g }) hp, State.ioRead_free hp]
    rfl
  · obtain ⟨v, rest, hp⟩ := List.exists_cons_of_ne_nil hp
    rw [State.ioRead_scripted (s := { s with flags := g }) hp, State.ioRead_scripted hp]

theorem overFlags_inPort (port : Byte) : exec (.inPort port) { s with flags := g } =
    mapNext (State.overFlags [] g) (exec (.inPort port) s) := by
  rw [exec_inPort, exec_inPort, overFlags_ioRead]
  rfl

theorem overFlags_rim : exec .rim { s with flags := g } = mapNext (State.overFlags [] g) (exec .rim s) := by
  cases hm : s.params.interruptModel with
  | none =>
    rw [exec_rim_of_none hm, exec_rim_of_none (s := { s with flags := g }) hm]
    rfl
  | i8085 =>
    rw [exec_rim_of_i8085 hm, exec_rim_of_i8085 (s := { s with flags := g }) hm]
    rfl

theorem overFlags_sim : exec .sim { s with flags := g } = mapNext (State.overFlags [] g) (exec .sim s) := by
  rw [exec_sim, exec_sim, simSerial_eq, simSerial_eq]
  rfl

end FlagFrame

/-- Settles O12: where a flag is read, that of `g` is that of `s`; what is written is computed from the same values, and
the flags the instruction does not write come from `g`. -/
theorem unreadFlagsHaveNoInfluence : Obligations.UnreadFlagsHaveNoInfluence := by
  intro i s g hread
  change _ = mapNext (State.overFlags _ g) _
  cases i with
  | movRR _ _ | movMR _ | mviR _ _ | mviM _ | sta _ | shld _ | xchg | addR _ | adi _ | subR _ | sui _ | inrR _ | dcrR _
  | cmpR _ | cpi _ | anaR _ | ani _ | xraR _ | xri _ | oraR _ | ori _ | cma | rlc | rrc | stc | jmp _ | call _ | rst _
  | pchl | sphl | outPort _ | ei | di | nop | hlt | unassigned08 | unassigned10 | unassigned18 | unassigned28
  | unassigned38 | unassignedCB | unassignedD9 | unassignedDD | unassignedED | unassignedFD => rfl
  | lxi pair _ | inx pair | dcx pair | dad pair | stax pair | pushRp pair => cases pair <;> rfl
  | movRM _ | lda _ | addM | subM | inrM | dcrM | cmpM | anaM | xraM | oraM => exact overFlags_loadByte fun _ => rfl
  | ldax pair => cases pair <;> exact overFlags_loadByte fun _ => rfl
  | lhld _ | popPsw | xthl => exact overFlags_loadByte fun _ => overFlags_loadByte fun _ => rfl
  | popRp pair => cases pair <;> exact overFlags_loadByte fun _ => overFlags_loadByte fun _ => rfl
  | adcR _ | aci _ | sbbR _ | sbi _ | ral | rar | cmc =>
    obtain ⟨_, _, _, _, cy⟩ := g
    obtain rfl : cy = s.flags.cy := hread .cy (List.mem_singleton_self _)
    rfl
  | adcM | sbbM =>
    obtain ⟨_, _, _, _, cy⟩ := g
    obtain rfl : cy = s.flags.cy := hread .cy (List.mem_singleton_self _)
    exact overFlags_loadByte fun _ => rfl
  | daa => exact overFlags_daa (hread .ac (by decide)) (hread .cy (by decide))
  | jnz dir | jz dir | jnc dir | jc dir | jpo dir | jpe dir | jp dir | jm dir =>
    refine overFlags_jumpIf ?_ dir
    exact hread
  | cnz dir | cz dir | cnc dir | cc dir | cpo dir | cpe dir | cp dir | cm dir =>
    refine overFlags_callIf ?_ dir
    exact hread
  | ret => exact overFlags_returnToPopped
  | rnz | rz | rnc | rc | rpo | rpe | rp | rm =>
    refine overFlags_returnIf ?_
    exact hread
  | pushPsw =>
    obtain rfl : g = s.flags := Flags.ext_value fun n => hread n (by cases n <;> decide)
    rfl
  | inPort port => exact overFlags_inPort port
  | rim => exact overFlags_rim
  | sim => exact overFlags_sim

end Sys2Proof.Machine
